-- ==== Sys2Proof/Word.lean ====
section
/-! DEFINITION. The plain words of the model: bytes, fixed tables with an index that cannot fall outside, and saturating counts. -/

namespace Sys2Proof

/-- One byte of the serial port or of an air frame. -/
abbrev Byte := BitVec 8

/-- A 16-bit field of the serial port or of an air frame, as carried. -/
abbrev Half := BitVec 16

/-- A table of exactly `n` like things. -/
abbrev Tab (α : Type) (n : Nat) := Vector α n

variable {α β : Type} {n : Nat}

/-- The thing at index `i`. -/
def Tab.look (t : Tab α n) (i : Fin n) : α := t[i.val]

/-- The table with `x` at index `i`. -/
def Tab.put (t : Tab α n) (i : Fin n) (x : α) : Tab α n := t.set i.val x i.isLt

/-- Every thing of the table changed by `f`, in one update. -/
def Tab.each (f : α → β) (t : Tab α n) : Tab β n :=
  ⟨(t.toList.map f).toArray, by simp⟩

/-- A table that holds `x` everywhere. -/
def Tab.all (n : Nat) (x : α) : Tab α n := Vector.replicate n x

/-- The lowest index whose thing satisfies `p`, or none. -/
def Tab.lowest (t : Tab α n) (p : α → Bool) : Option (Fin n) :=
  (List.finRange n).find? fun i => p (t.look i)

/-- How many things of the table satisfy `p`. -/
def Tab.count (t : Tab α n) (p : α → Bool) : Nat :=
  ((List.finRange n).filter fun i => p (t.look i)).length

/-- One more, stopping at `top` (00, section 4, "Counters"). -/
def bump (top x : Nat) : Nat := min top (x + 1)

/-- A sum that stops at `top`. -/
def satAdd (top x y : Nat) : Nat := min top (x + y)

end Sys2Proof
end

