-- ==== Sys2Proof/Machine/Records.lean ====
section
/-! DEFINITION. Request kinds, the body lengths each allows, and the judgement of a malformed record (R155, R175); the byte
order of multi-byte fields (00, section 4). -/

namespace Sys2Proof.Machine

open Sys2Proof

/-! ## Byte order -/

/-- Two bytes, most-significant first (00, section 4, "Byte order"). -/
def halfBytes (h : Half) : List Byte := [h.extractLsb' 8 8, h.extractLsb' 0 8]

/-- The 16-bit field that two bytes carry, most-significant byte first. -/
def halfOf (hi lo : Byte) : Half := hi ++ lo

/-- The 16-bit fields that a run of bytes carries; a last odd byte is left. -/
def halvesOf : List Byte → List Half
  | hi :: lo :: rest => halfOf hi lo :: halvesOf rest
  | _ => []

/-! ## Request kinds and allowed body lengths -/

/-! The request kinds, in the order of R175. -/

def Kind.linkSettings : Byte := 0x01
def Kind.neighbourEnrol : Byte := 0x02
def Kind.neighbourRetire : Byte := 0x03
def Kind.neighbourConfirm : Byte := 0x04
def Kind.neighbourQuery : Byte := 0x05
def Kind.lookup : Byte := 0x06
def Kind.find : Byte := 0x07
def Kind.entryWrite : Byte := 0x08
def Kind.entryPlace : Byte := 0x09
def Kind.entryRead : Byte := 0x0A
def Kind.entryState : Byte := 0x0B
def Kind.tableClear : Byte := 0x0C
def Kind.maskSet : Byte := 0x0D
def Kind.maskSelect : Byte := 0x0E
def Kind.frameSend : Byte := 0x0F
def Kind.counters : Byte := 0x10
def Kind.slotLength : Byte := 0x11
def Kind.mapWrite : Byte := 0x12
def Kind.mapRead : Byte := 0x13
def Kind.mapSwitch : Byte := 0x14
def Kind.scheduleStart : Byte := 0x15
def Kind.scheduleStop : Byte := 0x16
def Kind.timingSet : Byte := 0x17
def Kind.scanSet : Byte := 0x18
def Kind.scanStart : Byte := 0x19
def Kind.scanHalt : Byte := 0x1A
def Kind.identify : Byte := 0x1B
def Kind.status : Byte := 0x1C
def Kind.restart : Byte := 0x1D

/-- The request kinds of the index are 01 to 1D (hex) (R175). -/
def knownKind (k : Byte) : Bool := decide (1 ≤ k.toNat) && decide (k.toNat ≤ 0x1D)

/-- The body lengths that a known kind allows (R175). -/
def allowedLength (k : Byte) (len : Nat) : Bool :=
  match k.toNat with
  | 0x01 => len == 19
  | 0x02 => len == 5
  | 0x03 => len == 1
  | 0x04 => len == 1
  | 0x05 => len == 2
  | 0x06 => len == 4
  | 0x07 => len == 6
  | 0x08 => len == 9
  | 0x09 => len == 7
  | 0x0A => len == 2
  | 0x0B => len == 3
  | 0x0C => len == 1
  | 0x0D => len == 5
  | 0x0E => len == 1
  | 0x0F => decide (5 ≤ len) && decide (len ≤ 1444)
  | 0x10 => len == 1
  | 0x11 => len == 2
  | 0x12 => decide (7 ≤ len) && decide (len ≤ 69) && len % 2 == 1
  | 0x13 => len == 1
  | 0x14 => len == 0
  | 0x15 => len == 0
  | 0x16 => len == 0
  | 0x17 => len == 1
  | 0x18 => len == 5
  | 0x19 => len == 0
  | 0x1A => len == 0
  | 0x1B => len == 3
  | 0x1C => len == 0
  | 0x1D => len == 1
  | _ => false

/-- The longest body of any record (R155, R175). -/
def maxBody : Nat := 1448

/-- The three reasons for which a record is malformed, by number (R155, R175). -/
inductive Malformed where
  | kind | length | short
  deriving DecidableEq, Repr

/-- Why a record is malformed, with its kind and body length as received and the number of body bytes taken; none for a
well-formed record. The checks stand in the order KIND, LENGTH, SHORT (R155). A record that ended before its kind was
complete is SHORT (log 14). -/
def malformedReason (kind : Option Byte) (len : Option Nat) (taken : Nat) : Option Malformed :=
  match kind with
  | none => some .short
  | some k =>
    if !knownKind k then some .kind
    else match len with
      | none => some .short
      | some l =>
        if l > maxBody || !allowedLength k l then some .length
        else if taken < l then some .short
        else none

end Sys2Proof.Machine
end

