-- ==== Sys2Proof/Syntax.lean ====
section
/-! DEFINITION. The commands: one constructor per row of spec/opcode_table.json. A request carries the fields of its
record body at the widths of R175, and stands for the write completion of that record (R156). An arrival carries the
bytes that follow the start delimiter (R176) and the energy code of the frame (R1). -/

namespace Sys2Proof

/-- The thirteen values that LINK SETTINGS carries after its write flag (R13, R175). The five thresholds are signed. -/
structure CarriedSettings where
  k : Byte
  tF : Half
  tR : Half
  wF : Byte
  wR : Byte
  missLimit : Byte
  t1 : Half
  t2 : Half
  t3 : Half
  hyst : Byte
  retryLimit : Byte
  acqLimit : Byte
  queueLimit : Byte
  deriving DecidableEq, Repr

/-- The key fields of a path table request: destination, class and ingress, as carried (R47, R51, R175). -/
structure CarriedKey where
  dest : Half
  cls : Byte
  ing : Byte
  deriving DecidableEq, Repr

/-- What ENTRY WRITE and ENTRY PLACE carry after the index: key, action, next hop and requested state (R51). -/
structure CarriedEntry where
  key : CarriedKey
  action : Byte
  hop : Byte
  state : Byte
  deriving DecidableEq, Repr

/-- The commands. -/
inductive Instr where
  /-- SELECT falls (R151, R152). -/
  | selectFall
  /-- The kind byte WRITE is taken (R154). -/
  | write
  /-- The kind byte READ is taken (R159). -/
  | read
  /-- A first byte that is neither WRITE nor READ is taken (R153). -/
  | invalidTransactionKind
  /-- Write completion of a malformed record: the request kind and the body length as received or absent, and the
  number of body bytes taken (R155). -/
  | malformedRecord (kind : Option Byte) (len : Option Half) (taken : Half)
  /-- The last byte of the offered record is clocked out (R160). -/
  | readCompletion
  /-- SELECT rises before the offered record is complete (R162). -/
  | readEndedEarly
  /-- LINK SETTINGS (R13): write flag and thirteen values. -/
  | linkSettings (wr : Byte) (c : CarriedSettings)
  /-- NEIGHBOUR ENROL (R29): index, node id, sector hint (FF absent), tier cap (FF absent). -/
  | neighbourEnrol (index : Byte) (nodeId : Half) (hint : Byte) (cap : Byte)
  /-- NEIGHBOUR RETIRE (R30). -/
  | neighbourRetire (index : Byte)
  /-- NEIGHBOUR CONFIRM (R31). -/
  | neighbourConfirm (index : Byte)
  /-- NEIGHBOUR QUERY (R32): index and clear option. -/
  | neighbourQuery (index : Byte) (clear : Byte)
  /-- LOOKUP (R47). -/
  | lookup (key : CarriedKey)
  /-- FIND (R48): state condition, any-key flag, key. -/
  | find (state : Byte) (anyKey : Byte) (key : CarriedKey)
  /-- FIND with the state condition FREE (R49): any-key flag and key, both taken and unused. -/
  | findFree (anyKey : Byte) (key : CarriedKey)
  /-- ENTRY WRITE (R51, R52). -/
  | entryWrite (index : Half) (e : CarriedEntry)
  /-- ENTRY PLACE (R53). -/
  | entryPlace (e : CarriedEntry)
  /-- ENTRY READ (R54). -/
  | entryRead (index : Half)
  /-- ENTRY STATE (R55, R56): target (an index, or FFFE for LAST) and target state. -/
  | entryState (target : Half) (state : Byte)
  /-- TABLE CLEAR (R57): scope. -/
  | tableClear (scope : Byte)
  /-- MASK SET (R45): profile, destination ignore set, class compare flag, ingress compare flag. -/
  | maskSet (profile : Byte) (ignore : Half) (cmpClass : Byte) (cmpIngress : Byte)
  /-- MASK SELECT (R46). -/
  | maskSelect (profile : Byte)
  /-- FRAME SEND (R74, R75): destination, class, hop count, payload. -/
  | frameSend (dest : Half) (cls : Byte) (hops : Byte) (payload : List Byte)
  /-- COUNTERS (R73): clear option. -/
  | counters (clear : Byte)
  /-- SLOT LENGTH (R116). -/
  | slotLength (value : Half)
  /-- MAP WRITE (R122): map, first slot, check-present flag, check word, codes. -/
  | mapWrite (map : Byte) (first : Byte) (hasCheck : Byte) (check : Half) (codes : List Half)
  /-- MAP READ (R123). -/
  | mapRead (map : Byte)
  /-- MAP SWITCH (R124, R125). -/
  | mapSwitch
  /-- SCHEDULE START (R126). -/
  | scheduleStart
  /-- SCHEDULE STOP (R127). -/
  | scheduleStop
  /-- TIMING SET (R130): index, FF none. -/
  | timingSet (index : Byte)
  /-- SCAN SET (R147): mode, start sector, end sector, BOUNDARY flag, LOSS flag. -/
  | scanSet (mode : Byte) (start : Byte) (stop : Byte) (boundary : Byte) (loss : Byte)
  /-- SCAN START (R148). -/
  | scanStart
  /-- SCAN HALT (R149). -/
  | scanHalt
  /-- IDENTIFY (R168): node id and epoch. -/
  | identify (nodeId : Half) (epoch : Byte)
  /-- STATUS (R171). -/
  | status
  /-- RESTART with form WARM (R173). -/
  | restartWarm
  /-- RESTART with form COLD (R172). -/
  | restartCold
  /-- Power-on begins (R172). -/
  | powerOn
  /-- RESET is asserted (R172). -/
  | reset
  /-- The start completes (R172). -/
  | coldStartCompletion
  /-- SUPPLY-LOW is asserted (R169). -/
  | supplyLowAssertion
  /-- SUPPLY-LOW is de-asserted (R169). -/
  | supplyLowDeassertion
  /-- The start of the next slot (R128). -/
  | slotStart
  /-- The start of the open slot's body (R115). -/
  | bodyStart
  /-- The last frame of a burst has ended (R103). -/
  | burstEnd
  /-- The beacon has ended (R112). -/
  | beaconEnd
  /-- The front end gives the quiet code of the dwell (R141). -/
  | quietCode (code : BitVec 10)
  /-- The start of the open slot's tail (R91). -/
  | tailStart
  /-- A frame ends in an RX slot (R78, R81). -/
  | rxFrameArrival (bytes : List Byte) (code : BitVec 10)
  /-- A frame ends in a TX slot (R104). -/
  | acksetArrival (bytes : List Byte) (code : BitVec 10)
  /-- A frame ends in a dwell (R141), with the local superframe time in µs at the start of its reception. -/
  | dwellFrameArrival (bytes : List Byte) (code : BitVec 10) (localTime : Nat)
  /-- The end of the open slot (R115). -/
  | slotEnd
  /-- The superframe boundary (R129). -/
  | superframeBoundary
  /-- The ACKSET this part sends ends on the air (R91). -/
  | acksetEnd
  /-- RESTART with a form that is neither COLD nor WARM (R173). -/
  | restartRange (form : Byte)
  deriving DecidableEq, Repr

end Sys2Proof
end

