-- ==== Sys2Proof/Decode.lean ====
section
/-! DEFINITION. Reading commands from bits. No row of the table gives bits, so `decodeTableWord` names none. The request
records of the serial port do have an encoding (R154, R155, R175): `decodeRecord` reads the command that a record stands for
at its write completion, and `encodeRecord` writes the record of a request. -/

namespace Sys2Proof

open Sys2Proof.Machine

/-- The command that a table word spells: the table gives no row any bits (log 19). -/
def decodeTableWord (_nbits _w : Nat) : Option Instr := none

/-! ## The first byte of a transaction (R153, R175) -/

/-- The command that the host's first byte is: WRITE (3A), READ (C5), or a kind that is neither. -/
def decodeFirstByte (b : Byte) : Instr :=
  if b = 0x3A then .write else if b = 0xC5 then .read else .invalidTransactionKind

/-! ## From a record's body to a request (R175) -/

/-- LINK SETTINGS: write flag, then the thirteen values. -/
def decodeLinkSettings : List Byte → Option Instr
  | [wr, k, f1, f0, r1, r0, wf, wR, ml, a1, a0, b1, b0, c1, c0, hy, re, aq, qu] =>
    some (.linkSettings wr
      { k := k, tF := halfOf f1 f0, tR := halfOf r1 r0, wF := wf, wR := wR, missLimit := ml, t1 := halfOf a1 a0,
        t2 := halfOf b1 b0, t3 := halfOf c1 c0, hyst := hy, retryLimit := re, acqLimit := aq, queueLimit := qu })
  | _ => none

/-- NEIGHBOUR ENROL: index, node id, sector hint, tier cap. -/
def decodeEnrol : List Byte → Option Instr
  | [i, n1, n0, hint, cap] => some (.neighbourEnrol i (halfOf n1 n0) hint cap)
  | _ => none

/-- A request whose body is one byte. -/
def decodeOne (f : Byte → Instr) : List Byte → Option Instr
  | [a] => some (f a)
  | _ => none

/-- A request whose body is two bytes. -/
def decodeTwo (f : Byte → Byte → Instr) : List Byte → Option Instr
  | [a, b] => some (f a b)
  | _ => none

/-- A request whose body is one field of two bytes. -/
def decodeHalf (f : Half → Instr) : List Byte → Option Instr
  | [a1, a0] => some (f (halfOf a1 a0))
  | _ => none

/-- A request without a body. -/
def decodeNone (i : Instr) : List Byte → Option Instr
  | [] => some i
  | _ => none

/-- LOOKUP: destination, class, ingress. -/
def decodeLookup : List Byte → Option Instr
  | [d1, d0, c, g] => some (.lookup ⟨halfOf d1 d0, c, g⟩)
  | _ => none

/-- FIND: state, any-key flag, key; the state condition FREE is FIND FREE (R48, R49). -/
def decodeFind : List Byte → Option Instr
  | [st, any, d1, d0, c, g] =>
    if st = 0 then some (.findFree any ⟨halfOf d1 d0, c, g⟩) else some (.find st any ⟨halfOf d1 d0, c, g⟩)
  | _ => none

/-- ENTRY WRITE: index, key, action, next hop, requested state. -/
def decodeEntryWrite : List Byte → Option Instr
  | [i1, i0, d1, d0, c, g, a, h, st] => some (.entryWrite (halfOf i1 i0) ⟨⟨halfOf d1 d0, c, g⟩, a, h, st⟩)
  | _ => none

/-- ENTRY PLACE: key, action, next hop, requested state. -/
def decodeEntryPlace : List Byte → Option Instr
  | [d1, d0, c, g, a, h, st] => some (.entryPlace ⟨⟨halfOf d1 d0, c, g⟩, a, h, st⟩)
  | _ => none

/-- ENTRY STATE: target, target state. -/
def decodeEntryState : List Byte → Option Instr
  | [t1, t0, st] => some (.entryState (halfOf t1 t0) st)
  | _ => none

/-- MASK SET: profile, ignore set, class compare flag, ingress compare flag. -/
def decodeMaskSet : List Byte → Option Instr
  | [p, i1, i0, c, g] => some (.maskSet p (halfOf i1 i0) c g)
  | _ => none

/-- FRAME SEND: destination, class, hops, then the payload. -/
def decodeFrameSend : List Byte → Option Instr
  | d1 :: d0 :: c :: h :: payload => some (.frameSend (halfOf d1 d0) c h payload)
  | _ => none

/-- MAP WRITE: map, first slot, check-present flag, check word, then the codes. -/
def decodeMapWrite : List Byte → Option Instr
  | m :: f :: p :: k1 :: k0 :: codes => some (.mapWrite m f p (halfOf k1 k0) (halvesOf codes))
  | _ => none

/-- SCAN SET: mode, start sector, end sector, BOUNDARY flag, LOSS flag. -/
def decodeScanSet : List Byte → Option Instr
  | [m, a, b, x, y] => some (.scanSet m a b x y)
  | _ => none

/-- IDENTIFY: node id, epoch. -/
def decodeIdentify : List Byte → Option Instr
  | [n1, n0, e] => some (.identify (halfOf n1 n0) e)
  | _ => none

/-- RESTART: form COLD 0, WARM 1, any other refused RANGE (R173). -/
def restartOf (form : Byte) : Instr :=
  match form.toNat with
  | 0 => .restartCold
  | 1 => .restartWarm
  | _ => .restartRange form

/-- The request that a complete body of a known kind carries. -/
def decodeBody (k : Byte) : List Byte → Option Instr :=
  match k.toNat with
  | 0x01 => decodeLinkSettings
  | 0x02 => decodeEnrol
  | 0x03 => decodeOne .neighbourRetire
  | 0x04 => decodeOne .neighbourConfirm
  | 0x05 => decodeTwo .neighbourQuery
  | 0x06 => decodeLookup
  | 0x07 => decodeFind
  | 0x08 => decodeEntryWrite
  | 0x09 => decodeEntryPlace
  | 0x0A => decodeHalf .entryRead
  | 0x0B => decodeEntryState
  | 0x0C => decodeOne .tableClear
  | 0x0D => decodeMaskSet
  | 0x0E => decodeOne .maskSelect
  | 0x0F => decodeFrameSend
  | 0x10 => decodeOne .counters
  | 0x11 => decodeHalf .slotLength
  | 0x12 => decodeMapWrite
  | 0x13 => decodeOne .mapRead
  | 0x14 => decodeNone .mapSwitch
  | 0x15 => decodeNone .scheduleStart
  | 0x16 => decodeNone .scheduleStop
  | 0x17 => decodeOne .timingSet
  | 0x18 => decodeScanSet
  | 0x19 => decodeNone .scanStart
  | 0x1A => decodeNone .scanHalt
  | 0x1B => decodeIdentify
  | 0x1C => decodeNone .status
  | 0x1D => decodeOne restartOf
  | _ => fun _ => none

/-! ## From a record to a command (R154, R155) -/

/-- The bytes of a record whose header is complete, at its write completion: a malformed record by its reason, else the
request. A length above 1448 takes no body; bytes beyond the body are filler (R151, R155). -/
def decodeHeaded (k : Byte) (len : Half) (rest : List Byte) : Option Instr :=
  let taken := if maxBody < len.toNat then 0 else min rest.length len.toNat
  match malformedReason (some k) (some len.toNat) taken with
  | some _ => some (.malformedRecord (some k) (some len) (BitVec.ofNat 16 taken))
  | none => decodeBody k (rest.take len.toNat)

/-- The command that the bytes after a WRITE byte stand for at write completion: none where no record byte was taken (R154). -/
def decodeRecord : List Byte → Option Instr
  | [] => none
  | [k] => some (.malformedRecord (some k) none 0)
  | [k, _] => some (.malformedRecord (some k) none 0)
  | k :: l1 :: l0 :: rest => decodeHeaded k (halfOf l1 l0) rest

/-! ## From a request to its record (R175) -/

/-- A record: kind, body length, body. -/
def requestRecord (k : Byte) (body : List Byte) : List Byte := k :: (halfBytes (BitVec.ofNat 16 body.length) ++ body)

/-- The bytes of a key. -/
def keyBytes (k : CarriedKey) : List Byte := halfBytes k.dest ++ [k.cls, k.ing]

/-- The bytes of what ENTRY WRITE and ENTRY PLACE carry after the index. -/
def carriedEntryBytes (e : CarriedEntry) : List Byte := keyBytes e.key ++ [e.action, e.hop, e.state]

/-- The bytes of the thirteen values of LINK SETTINGS. -/
def settingsBytes (c : CarriedSettings) : List Byte :=
  [c.k] ++ halfBytes c.tF ++ halfBytes c.tR ++ [c.wF, c.wR, c.missLimit] ++ halfBytes c.t1 ++ halfBytes c.t2
    ++ halfBytes c.t3 ++ [c.hyst, c.retryLimit, c.acqLimit, c.queueLimit]

/-- The record of a request; none for a command that is no request record, and for a malformed record, whose bytes the
command does not hold. -/
def encodeRecord : Instr → Option (List Byte)
  | .linkSettings wr c => some (requestRecord Kind.linkSettings (wr :: settingsBytes c))
  | .neighbourEnrol i n hint cap => some (requestRecord Kind.neighbourEnrol ([i] ++ halfBytes n ++ [hint, cap]))
  | .neighbourRetire i => some (requestRecord Kind.neighbourRetire [i])
  | .neighbourConfirm i => some (requestRecord Kind.neighbourConfirm [i])
  | .neighbourQuery i c => some (requestRecord Kind.neighbourQuery [i, c])
  | .lookup k => some (requestRecord Kind.lookup (keyBytes k))
  | .find st any k => some (requestRecord Kind.find ([st, any] ++ keyBytes k))
  | .findFree any k => some (requestRecord Kind.find ([0, any] ++ keyBytes k))
  | .entryWrite i e => some (requestRecord Kind.entryWrite (halfBytes i ++ carriedEntryBytes e))
  | .entryPlace e => some (requestRecord Kind.entryPlace (carriedEntryBytes e))
  | .entryRead i => some (requestRecord Kind.entryRead (halfBytes i))
  | .entryState t st => some (requestRecord Kind.entryState (halfBytes t ++ [st]))
  | .tableClear sc => some (requestRecord Kind.tableClear [sc])
  | .maskSet p i c g => some (requestRecord Kind.maskSet ([p] ++ halfBytes i ++ [c, g]))
  | .maskSelect p => some (requestRecord Kind.maskSelect [p])
  | .frameSend d c h payload => some (requestRecord Kind.frameSend (halfBytes d ++ [c, h] ++ payload))
  | .counters c => some (requestRecord Kind.counters [c])
  | .slotLength v => some (requestRecord Kind.slotLength (halfBytes v))
  | .mapWrite m f p check codes =>
    some (requestRecord Kind.mapWrite ([m, f, p] ++ halfBytes check ++ codes.flatMap halfBytes))
  | .mapRead m => some (requestRecord Kind.mapRead [m])
  | .mapSwitch => some (requestRecord Kind.mapSwitch [])
  | .scheduleStart => some (requestRecord Kind.scheduleStart [])
  | .scheduleStop => some (requestRecord Kind.scheduleStop [])
  | .timingSet i => some (requestRecord Kind.timingSet [i])
  | .scanSet m a b x y => some (requestRecord Kind.scanSet [m, a, b, x, y])
  | .scanStart => some (requestRecord Kind.scanStart [])
  | .scanHalt => some (requestRecord Kind.scanHalt [])
  | .identify n e => some (requestRecord Kind.identify (halfBytes n ++ [e]))
  | .status => some (requestRecord Kind.status [])
  | .restartWarm => some (requestRecord Kind.restart [1])
  | .restartCold => some (requestRecord Kind.restart [0])
  | .restartRange form => some (requestRecord Kind.restart [form])
  | .malformedRecord _ _ _ => none
  | .selectFall => none
  | .write => none
  | .read => none
  | .invalidTransactionKind => none
  | .readCompletion => none
  | .readEndedEarly => none
  | .powerOn => none
  | .reset => none
  | .coldStartCompletion => none
  | .supplyLowAssertion => none
  | .supplyLowDeassertion => none
  | .slotStart => none
  | .bodyStart => none
  | .burstEnd => none
  | .beaconEnd => none
  | .quietCode _ => none
  | .tailStart => none
  | .rxFrameArrival _ _ => none
  | .acksetArrival _ _ => none
  | .dwellFrameArrival _ _ _ => none
  | .slotEnd => none
  | .superframeBoundary => none
  | .acksetEnd => none

end Sys2Proof
end

