-- ==== Sys2Proof/Config.lean ====
section
/-! DEFINITION. The free values: what the spec leaves open and the model does not choose. None has a body, so no proof can see its value. -/

namespace Sys2Proof.Config

/-- DESIGN CHOICE (log 6). Which free page is given next: R62 says that it is not observable, so the pick with
number `k` takes the page at position `pagePick k` of the pool, modulo the pool's length. -/
opaque pagePick : Nat → Nat

/-- DESIGN CHOICE (log 8). The byte that stands for an ABSENT choice among names: the body encoding table of R175
gives such a field no absent value. -/
opaque absentName : BitVec 8

end Sys2Proof.Config
end

