-- ==== Sys2Proof/Machine/State.lean ====
section
/-! DEFINITION. The state of the part, block by block, as plain data, and the state after a cold start. -/

namespace Sys2Proof.Machine

open Sys2Proof

/-! ## Names and small values -/

/-- The number of a neighbour record, 0..15 (R16). -/
abbrev NbrIdx := Fin 16
/-- A sector, 0..5 (00, section 3). -/
abbrev Sector := Fin 6
/-- The number of a path entry, 0..255 (R38). -/
abbrev EntryIdx := Fin 256
/-- A frame handle, 0..63 (R63). -/
abbrev Handle := Fin 64
/-- The number of a slot in a superframe, 0..31 (R115). -/
abbrev SlotIdx := Fin 32
/-- A frame sequence, modulo 4096 (00, section 3). -/
abbrev Seq := BitVec 12
/-- An energy code from the ten ECODE lines (R1). -/
abbrev Code := BitVec 10

/-- The six link states, in the order of R16. -/
inductive LinkState where
  | vacant | seeking | weak | up | lost | held
  deriving DecidableEq, Repr

/-- The states of a path entry that is not FREE (R38). -/
inductive RouteState where
  | live | parked | barred
  deriving DecidableEq, Repr

/-- The action of a path entry; the next hop is present exactly when it is FORWARD (R38). -/
inductive Action where
  | forward (hop : NbrIdx) | deliver | discard
  deriving DecidableEq, Repr

/-- Where a frame came from: a neighbour, or the host ("local", number 16) (R38, R63). -/
inductive Ingress where
  | nbr (n : NbrIdx) | host
  deriving DecidableEq, Repr

/-- A full key: destination, class and ingress (R38, R43). -/
structure Key where
  dest : BitVec 12
  cls : BitVec 3
  ing : Ingress
  deriving DecidableEq, Repr

/-- A path entry that is not FREE (R38). -/
structure Route where
  state : RouteState
  key : Key
  action : Action
  hits : Nat
  deriving DecidableEq, Repr

/-- A path entry: none is FREE, with key, action and next hop absent and hit count 0 (R38, R54). -/
abbrev Entry := Option Route

/-- A mask profile (R41): bit i of the ignore set names the position of weight 2^i (R175). -/
structure Mask where
  ignore : BitVec 12
  cmpClass : Bool
  cmpIngress : Bool
  deriving DecidableEq, Repr

/-- The name of a mask profile (R41). -/
inductive Profile where
  | a | b
  deriving DecidableEq, Repr

/-- The result codes, in the order of R157 and with the numbers of R175. -/
inductive ResultCode where
  | ok | parked | format | range | state | full | queue | nomatch | noroute | local | discarded | nobuf | mapfault
  deriving DecidableEq, Repr

/-! ## Link monitor (01, 02) -/

/-- The link settings (R13). -/
structure LinkSettings where
  k : Nat
  tF : Int
  tR : Int
  wF : Nat
  wR : Nat
  missLimit : Nat
  t1 : Int
  t2 : Int
  t3 : Int
  hyst : Nat
  retryLimit : Nat
  acqLimit : Nat
  queueLimit : Nat
  deriving DecidableEq, Repr

/-- The seven per-neighbour counters (R33). -/
structure NbrCounters where
  sent : Nat
  acked : Nat
  retries : Nat
  received : Nat
  duplicates : Nat
  stale : Nat
  refused : Nat
  deriving DecidableEq, Repr

/-- A neighbour record (R16), but for its transmit queue, which the frame store owns. -/
structure Nbr where
  state : LinkState
  nodeId : Option Nat
  sector : Option Sector
  epoch : Option Byte
  acc : Option Int
  reseed : Bool
  fade : Nat
  good : Nat
  miss : Nat
  cap : Fin 4
  margins : Tab (Option Int) 6
  txSeq : Seq
  high : Option Seq
  seen : List Seq
  age : Nat
  counters : NbrCounters
  deriving DecidableEq, Repr

/-- The link monitor: neighbour table, link settings, noise floors (R2, R13, R16). -/
structure Monitor where
  nbrs : Tab Nbr 16
  settings : LinkSettings
  floors : Tab Code 6
  deriving DecidableEq, Repr

/-! ## Path table (03) -/

/-- The path table (R38, R41, R50). -/
structure PathTable where
  entries : Tab Entry 256
  maskA : Mask
  maskB : Mask
  active : Profile
  lastMatch : Option EntryIdx
  deriving DecidableEq, Repr

/-! ## Frame store (04) -/

/-- The place of a stored frame (R63). -/
inductive Place where
  | queue (n : NbrIdx) | delivery
  deriving DecidableEq, Repr

/-- A frame record in use (R63). -/
structure FrameRec where
  place : Place
  ing : Ingress
  dest : BitVec 12
  cls : BitVec 3
  hops : BitVec 4
  len : Nat
  pages : List Nat
  seq : Option Seq
  retries : Option Nat
  unrouted : Option Bool
  deriving DecidableEq, Repr

/-- The eight discard counters (R72). -/
structure Discards where
  retry : Nat
  airtime : Nat
  hops : Nat
  reflect : Nat
  queue : Nat
  noroute : Nat
  retired : Nat
  action : Nat
  deriving DecidableEq, Repr

/-- A discard reason (R72). -/
inductive Reason where
  | retry | airtime | hops | reflect | queue | noroute | retired | action
  deriving DecidableEq, Repr

/-- The frame store, with the receive engine's two counters that COUNTERS reports with its own (R62, R63, R70, R72).
`picks` is the model's own field: how many free pages have been picked (log 6). -/
structure FrameStore where
  frames : Tab (Option FrameRec) 64
  pool : List Nat
  mem : List Host.Cell
  queues : Tab (List Handle) 16
  delivery : List Handle
  discards : Discards
  checkFail : Nat
  foreign : Nat
  picks : Nat
  deriving DecidableEq, Repr

/-! ## Receive and transmit engines, front end (05, 06) -/

/-- The receive context of an RX slot (R78). -/
structure RxCtx where
  nbr : NbrIdx
  sector : Sector
  firstCode : Option Code
  heard : Bool
  acks : List Seq
  deriving DecidableEq, Repr

/-- What a TX slot sends (R99): an in-flight set with its sequences, or a HOLD frame. After a retire of the neighbour
the context names no frame (R109). -/
inductive TxContent where
  | frames (set : List (Handle × Seq)) | hold | nothing
  deriving DecidableEq, Repr

/-- The phase of a TX slot (R99). -/
inductive TxPhase where
  | burst | listen
  deriving DecidableEq, Repr

/-- The transmit context of a TX slot (R99). After a retire of the neighbour it names no neighbour (R109). -/
structure TxCtx where
  nbr : Option NbrIdx
  sector : Sector
  tier : Fin 4
  cost : Nat
  content : TxContent
  phase : TxPhase
  ackset : Option (Code × List Seq)
  deriving DecidableEq, Repr

/-- What this part can have on the air (R169). -/
inductive AirKind where
  | burst | ackset | beacon
  deriving DecidableEq, Repr

/-- A transmission on the air: its kind, its sector, the tier that the preamble of each frame tells the front end, and the
frames in the order sent, each from its start delimiter through its check (R9, R103, R176). -/
structure OnAir where
  kind : AirKind
  sector : Sector
  tier : Fin 4
  frames : List (List Byte)
  deriving DecidableEq, Repr

/-- The engines' contexts and the front end pins. `beacon` is a beacon that the open BEACON slot is to send (R112). -/
structure Radio where
  rx : Option RxCtx
  tx : Option TxCtx
  beacon : Option Sector
  onAir : Option OnAir
  txon : Bool
  rxon : Bool
  sector : Option Sector
  deriving DecidableEq, Repr

/-! ## Slot scheduler (07) -/

/-- A slot map (R121). -/
structure SlotMap where
  codes : Tab Half 32
  check : Half
  deriving DecidableEq, Repr

/-- The kind and argument of a legal slot code (R120). -/
inductive SlotKind where
  | idle | tx (n : NbrIdx) | rx (n : NbrIdx) | beacon (s : Sector) | scan
  deriving DecidableEq, Repr

/-- The parts of a slot (R12, R115). -/
inductive SlotPart where
  | guard | body | tail
  deriving DecidableEq, Repr

/-- The open slot: its index, what it was given to, its part, its correction in µs (0 but for slot 31, R132), and,
for slot 31, whether the superframe boundary was taken before its end (R115). -/
structure OpenSlot where
  index : SlotIdx
  kind : SlotKind
  part : SlotPart
  corr : Int
  boundaryTaken : Bool
  deriving DecidableEq, Repr

/-- Where the superframe stands: before the start of a slot, in an open slot, or after the end of slot 31 with the
boundary still to be taken (R115, R129). -/
inductive Progress where
  | awaitStart (i : SlotIdx) | opened (o : OpenSlot) | awaitBoundary
  deriving DecidableEq, Repr

/-- The scheduler state (R117). -/
inductive SchedState where
  | stopped | running (p : Progress)
  deriving DecidableEq, Repr

/-- The set of transmit holds (R119). -/
structure Holds where
  identity : Bool
  supply : Bool
  drift : Bool
  deriving DecidableEq, Repr

/-- The slot scheduler (R116 to R121, R130, R131). -/
structure Scheduler where
  state : SchedState
  count : Half
  holds : Holds
  maps : Tab SlotMap 2
  active : Fin 2
  slotLen : Nat
  sync : Option NbrIdx
  pendingD : Option Int
  lastD : Option Int
  deriving DecidableEq, Repr

/-! ## Sector scanner (08) -/

/-- The scan modes (R135). -/
inductive ScanMode where
  | once | onceLocked | repeat | step
  deriving DecidableEq, Repr

/-- A beacon kept in a dwell's beacon list (R141). -/
structure HeardBeacon where
  nodeId : Nat
  epoch : Byte
  slot : Byte
  offset : Half
  code : Code
  localTime : Nat
  deriving DecidableEq, Repr

/-- The dwell context (R141). -/
structure Dwell where
  sector : Sector
  count : Half
  slot : SlotIdx
  quiet : Option Code
  beacons : List HeardBeacon
  heard : Nat
  failed : Nat
  other : Nat
  deriving DecidableEq, Repr

/-- The scanner's state with its current and next sector (R137); while DWELLING the current sector is the dwell's. -/
inductive ScanState where
  | idle | armed (current : Sector) | dwelling (d : Dwell) | paused (current : Sector)
  | waiting (current next : Sector)
  deriving DecidableEq, Repr

/-- The scanner's settings (R135). -/
structure ScanSettings where
  mode : ScanMode
  start : Sector
  stop : Sector
  boundary : Bool
  loss : Bool
  deriving DecidableEq, Repr

/-- The sector scanner (R135). -/
structure Scanner where
  settings : ScanSettings
  state : ScanState
  ignored : Nat
  deriving DecidableEq, Repr

/-! ## Supply and identity (10) -/

/-- The identity (R167). -/
structure Identity where
  nodeId : Nat
  epoch : Byte
  deriving DecidableEq, Repr

/-- The start causes (R171). -/
inductive StartCause where
  | power | pin | coldRequest | warmRequest
  deriving DecidableEq, Repr

/-- Supply, identity and starts (R167, R169, R171, R172). `starting` is the cause of a start in progress. -/
structure Part where
  identity : Option Identity
  latch : Bool
  supplyLow : Bool
  resetLow : Bool
  cause : StartCause
  starting : Option StartCause
  deriving DecidableEq, Repr

/-! ## Host link (09) -/

/-- The causes of a LINK notice, in the order of R34. -/
inductive LinkCause where
  | enrol | acquired | epoch | fade | recover | miss | timeout | handover | confirm | retire
  deriving DecidableEq, Repr

/-- The causes of a SCHEDULER notice (R133). -/
inductive SchedCause where
  | driftSet | driftCleared | syncCleared
  deriving DecidableEq, Repr

/-- The edges of SUPPLY-LOW (R170). -/
inductive Edge where
  | asserted | released
  deriving DecidableEq, Repr

/-- The transmission that an assertion of SUPPLY-LOW cut (R170). -/
inductive Cut where
  | none | burst | ackset | beacon
  deriving DecidableEq, Repr

/-- The sources of notices (R158). -/
inductive Source where
  | link (n : NbrIdx) | scanner | scheduler | supply | start
  deriving DecidableEq, Repr

/-- One beacon of a scan report (R143). -/
structure ReportBeacon where
  nodeId : Nat
  epoch : Byte
  sample : Int
  enrolled : Option NbrIdx
  deriving DecidableEq, Repr

/-- The five scanner states by name (R135). -/
inductive ScanTag where
  | idle | armed | dwelling | paused | waiting
  deriving DecidableEq, Repr

/-- What a notice carries, but for its change count and rescue counts (R35, R143, R133, R170, R174). -/
inductive NoticeContent where
  | link (n : NbrIdx) (nodeId : Option Nat) (state : LinkState) (cause : LinkCause) (sector : Option Sector)
      (epoch : Option Byte) (margin : Option Int)
  | scanner (sector : Sector) (count : Half) (slot : SlotIdx) (floor : Code) (beacons : List ReportBeacon)
      (more : Bool) (heard failed other : Nat) (state : ScanTag) (current next : Option Sector)
  | scheduler (cause : SchedCause) (drift : Bool) (sync : Option NbrIdx) (d : Option Int) (count : Half)
  | supply (edge : Edge) (level : Bool) (latch : Bool) (cut : Option Cut) (count : Half)
  | start (cause : StartCause) (identity : Option Identity) (level : Bool) (latch : Bool)
  deriving DecidableEq, Repr

/-- The moved and dropped counts of a rescue (R35, R97). -/
structure Rescue where
  moved : Nat
  dropped : Nat
  deriving DecidableEq, Repr

/-- A pending notice: source, content, change count and rescue counts (R35, R158). -/
structure Notice where
  source : Source
  content : NoticeContent
  changes : Nat
  rescue : Option Rescue
  deriving DecidableEq, Repr

/-- The names of the eleven settings, in the order of the table of R13. -/
inductive SettingName where
  | k | tF | tR | wF | wR | missLimit | thresholds | hyst | retryLimit | acqLimit | queueLimit
  deriving DecidableEq, Repr

/-- The outcomes of SCAN START (R148). -/
inductive ScanOutcome where
  | started | restarted | resumed | ignored
  deriving DecidableEq, Repr

/-- What NEIGHBOUR QUERY reports (R32). -/
structure NbrReport where
  state : LinkState
  nodeId : Option Nat
  sector : Option Sector
  epoch : Option Byte
  acc : Option Int
  margin : Option Int
  reseed : Bool
  tier : Fin 4
  cap : Fin 4
  fade : Nat
  good : Nat
  miss : Nat
  margins : Tab (Option Int) 6
  txSeq : Seq
  high : Option Seq
  seen : List Seq
  age : Nat
  queueLen : Nat
  counters : NbrCounters
  deriving DecidableEq, Repr

/-- What STATUS reports (R171). -/
structure StatusReport where
  cause : StartCause
  latch : Bool
  level : Bool
  identity : Option Identity
  running : Bool
  holds : Holds
  active : Fin 2
  slotLen : Nat
  count : Half
  sync : Option NbrIdx
  lastD : Option Int
  profile : Profile
  freeEntries : Nat
  nextFree : Option EntryIdx
  freePages : Nat
  freeRecords : Nat
  deliveryLen : Nat
  scanner : ScanTag
  current : Option Sector
  ignored : Nat
  deriving DecidableEq, Repr

/-- The result bodies. `empty` is the body where the owning rule names no content (R157). -/
inductive ReplyBody where
  | empty
  | format (len : Option Nat) (reason : Malformed) (taken : Nat)
  | settings (now : LinkSettings) (clamped : List SettingName)
  | enrolled (n : NbrIdx) (cap : Fin 4) (clamped : Bool)
  | retired (entries frames : Nat)
  | linkState (found : LinkState)
  | neighbour (r : NbrReport)
  | found (i : EntryIdx) (multiple : Bool) (e : Entry)
  /-- ENTRY WRITE, ENTRY PLACE, ENTRY STATE: the index, the entry as it stood before, which R61 says the request reports a
  change from, and the entry as it now stands (R52, R56). What of it is clocked out: log 29. -/
  | entryAt (i : EntryIdx) (was now : Entry)
  | entry (e : Entry)
  | freed (n : Nat)
  | masks (a b : Mask) (active : Profile)
  | sent (h : Handle) (hop : NbrIdx) (q : Seq) (hops : BitVec 4) (i : EntryIdx)
  | notSent (hops : BitVec 4) (winner : Option (EntryIdx × Action))
  | counters (d : Discards) (checkFail foreign : Nat)
  | slotLength (value : Nat) (differed : Bool)
  | mapWritten (m : Fin 2) (valid : Bool) (sum : Half)
  | mapRead (map : SlotMap) (valid : Bool) (sum : Half) (active : Bool)
  | activeMap (m : Fin 2)
  | activeMapAt (m : Fin 2) (count : Half)
  | mapFault (m : Fin 2) (sum : Half)
  | mapFaultAt (m : Fin 2) (sum : Half) (count : Half)
  | stopped (count : Half) (slot : Option SlotIdx)
  | timing (sync : Option NbrIdx) (driftCleared : Bool)
  | scanSettings (now : ScanSettings)
  | scanRefused (now : ScanSettings) (state : ScanTag)
  | scanStarted (outcome : ScanOutcome) (state : ScanTag) (current : Option Sector) (ignored : Nat)
  | scanHalted (state : ScanTag) (current : Option Sector)
  | identified (now : Identity) (was : Option Identity) (holdRemoved : Bool)
  | identifyRefused (now : Option Identity) (running : Bool)
  | status (r : StatusReport)
  | restarted (identity : Option Identity) (wasRunning : Bool)
  deriving DecidableEq, Repr

/-- A reply: the request kind it answers (absent only in a FORMAT reply), one result code, a result body (R157). -/
structure Reply where
  kind : Option Byte
  code : ResultCode
  body : ReplyBody
  deriving DecidableEq, Repr

/-- The item that a READ offers (R159). -/
inductive Item where
  | reply | notice (src : Source) | frame (h : Handle) | empty
  deriving DecidableEq, Repr

/-- The carry of an offered notice: the postings taken since the read chose it, and the sum of their rescue counts (R161). -/
structure Carry where
  postings : Nat
  rescue : Option Rescue
  deriving DecidableEq, Repr

/-- Where the present transaction stands (R151, R154, R159). `selected`: SELECT has fallen and the status byte is
formed. `writing`: a WRITE was taken while READY, and a record is taken in. `reading`: a READ has chosen its item and
clocks out the copy of its record. `spent`: the rest of the transaction has no effect. `none`: no transaction. -/
inductive Phase where
  | none | selected (status : Byte) | writing | reading (item : Item) (record : List Byte) (carry : Carry) | spent
  deriving DecidableEq, Repr

/-- The host link (R152 to R161). `staged` is the one request that can stay in service: MAP SWITCH (R125, R156). -/
structure HostLink where
  phase : Phase
  error : Bool
  staged : Bool
  reply : Option Reply
  notices : List Notice
  deriving DecidableEq, Repr

/-! ## The whole state -/

/-- The state of the part, and the queue of commands that wait, first in, first out. -/
structure State where
  link : HostLink
  mon : Monitor
  path : PathTable
  store : FrameStore
  radio : Radio
  sched : Scheduler
  scan : Scanner
  part : Part
  pending : List Instr
  deriving DecidableEq, Repr

/-- The faults of the part. It has none: the spec names no condition that stops the part. Every refusal it describes is
a reply with a result code (R157), an idle slot (R98), a counted drop (R72) or an ignored event, and each of these is a
next state. -/
inductive Fault where
  deriving DecidableEq, Repr

/-- The refusals of the model. -/
inductive Refusal where
  /-- Safe: raised only by an arm of `exec` for a command that has no meaning yet. No arm raises it. -/
  | notModelled (mnemonic : String)
  deriving DecidableEq, Repr

/-! ## Cold-start values -/

/-- A VACANT record as a cold start leaves it (R17). -/
def Nbr.vacant : Nbr where
  state := .vacant
  nodeId := none
  sector := none
  epoch := none
  acc := none
  reseed := false
  fade := 0
  good := 0
  miss := 0
  cap := 3
  margins := Tab.all 6 none
  txSeq := 0
  high := none
  seen := []
  age := 0
  counters := ⟨0, 0, 0, 0, 0, 0, 0⟩

/-- The default link settings (R13, R15). -/
def LinkSettings.default : LinkSettings where
  k := 2
  tF := 24
  tR := 40
  wF := 4
  wR := 6
  missLimit := 8
  t1 := 48
  t2 := 80
  t3 := 112
  hyst := 16
  retryLimit := 4
  acqLimit := 64
  queueLimit := 12

/-- The link monitor after a cold start (R2, R15, R17). -/
def Monitor.cold : Monitor where
  nbrs := Tab.all 16 Nbr.vacant
  settings := LinkSettings.default
  floors := Tab.all 6 160

/-- The default mask profile (R41). -/
def Mask.default : Mask := ⟨0, false, false⟩

/-- The path table after a cold start (R40). -/
def PathTable.cold : PathTable where
  entries := Tab.all 256 none
  maskA := Mask.default
  maskB := Mask.default
  active := .a
  lastMatch := none

/-- The frame store after a cold start (R76). `picks` starts at a DESIGN CHOICE 0 (log 6). -/
def FrameStore.cold : FrameStore where
  frames := Tab.all 64 none
  pool := List.range 160
  mem := []
  queues := Tab.all 16 []
  delivery := []
  discards := ⟨0, 0, 0, 0, 0, 0, 0, 0⟩
  checkFail := 0
  foreign := 0
  picks := 0

/-- The engines after either start: no context, pins released (R78, R99, R172). The sector lines: DESIGN CHOICE, log 11. -/
def Radio.off : Radio where
  rx := none
  tx := none
  beacon := none
  onAir := none
  txon := false
  rxon := false
  sector := none

/-- The slot map of a cold start: all IDLE, check word 65535 (R121). -/
def SlotMap.cold : SlotMap where
  codes := Tab.all 32 0
  check := 65535

/-- The slot scheduler after a cold start, with SUPPLY-LOW at `level` (R117, R119). -/
def Scheduler.cold (level : Bool) : Scheduler where
  state := .stopped
  count := 0
  holds := ⟨true, level, false⟩
  maps := Tab.all 2 SlotMap.cold
  active := 0
  slotLen := 1000
  sync := none
  pendingD := none
  lastD := none

/-- The sector scanner after a cold start (R135). -/
def Scanner.cold : Scanner where
  settings := ⟨.once, 0, 5, false, false⟩
  state := .idle
  ignored := 0

/-- The START notice that a start posts into the empty set (R174). -/
def Notice.start (cause : StartCause) (identity : Option Identity) (level latch : Bool) : Notice where
  source := .start
  content := .start cause identity level latch
  changes := 1
  rescue := none

/-- The host link after a cold start: the START notice alone is pending (R164). -/
def HostLink.cold (cause : StartCause) (level : Bool) : HostLink where
  phase := .none
  error := false
  staged := false
  reply := none
  notices := [Notice.start cause none level false]

/-- The part when a cold start with this cause completes, SUPPLY-LOW being at `level` (R172). -/
def State.cold (cause : StartCause) (level : Bool) (pending : List Instr) : State where
  link := HostLink.cold cause level
  mon := Monitor.cold
  path := PathTable.cold
  store := FrameStore.cold
  radio := Radio.off
  sched := Scheduler.cold level
  scan := Scanner.cold
  part := ⟨none, false, level, false, cause, none⟩
  pending := pending

/-- The part right after power-on is complete (R172). DESIGN CHOICE (log 15): SUPPLY-LOW, an input, is not asserted. -/
def State.reset : State := State.cold .power false []

end Sys2Proof.Machine
end

