-- ==== Sys2Proof/Machine/Flags.lean ====
section
/-! DEFINITION. The flags the part forms from its state: the link status byte (R152, R175), ATTN (R163), the transmit
holds (R119), and small questions about the scheduler and the scanner. -/

namespace Sys2Proof.Machine

open Sys2Proof

/-- READY: no request is in service and no reply waits (R152). -/
def State.ready (s : State) : Bool := !s.link.staged && s.link.reply.isNone

/-- A flag at a bit position of the status byte. -/
def flagBit (pos : Nat) (f : Bool) : Byte := if f then 1#8 <<< pos else 0

/-- The link status byte: READY 7, REPLY 6, NOTICE 5, FRAME 4, ERROR 3, bits 2..0 sent as 0 (R152, R175). -/
def State.statusByte (s : State) : Byte :=
  flagBit 7 s.ready ||| flagBit 6 s.link.reply.isSome ||| flagBit 5 (!s.link.notices.isEmpty)
    ||| flagBit 4 (!s.store.delivery.isEmpty) ||| flagBit 3 s.link.error

/-- The ERROR flag of a status byte (R175). -/
def statusError (b : Byte) : Bool := b.getLsbD 3

/-- ATTN: asserted while a reply waits, a notice is pending or a frame waits (R163); low while a start is in progress (R172). -/
def State.attn (s : State) : Bool :=
  s.part.starting.isNone && (s.link.reply.isSome || !s.link.notices.isEmpty || !s.store.delivery.isEmpty)

/-- Any transmit hold is set (R119). -/
def Holds.any (h : Holds) : Bool := h.identity || h.supply || h.drift

/-- The scheduler is RUNNING (R117). -/
def Scheduler.isRunning (c : Scheduler) : Bool :=
  match c.state with
  | .stopped => false
  | .running _ => true

/-- The open slot, if one is open (R115). -/
def Scheduler.openSlot (c : Scheduler) : Option OpenSlot :=
  match c.state with
  | .running (.opened o) => some o
  | _ => none

/-- The index of the slot open (R127); between two slots, that of the slot to start next, and 31 while the boundary is
still to be taken (log 5). Absent while STOPPED. -/
def Scheduler.slotIndex (c : Scheduler) : Option SlotIdx :=
  match c.state with
  | .stopped => none
  | .running (.awaitStart i) => some i
  | .running (.opened o) => some o.index
  | .running .awaitBoundary => some 31

/-- The scanner's state by name (R137). -/
def ScanState.tag : ScanState → ScanTag
  | .idle => .idle
  | .armed _ => .armed
  | .dwelling _ => .dwelling
  | .paused _ => .paused
  | .waiting _ _ => .waiting

/-- The current sector: present in every state but IDLE (R137). -/
def ScanState.current : ScanState → Option Sector
  | .idle => none
  | .armed c => some c
  | .dwelling d => some d.sector
  | .paused c => some c
  | .waiting c _ => some c

/-- The next sector: present in WAITING only (R137). -/
def ScanState.next : ScanState → Option Sector
  | .waiting _ n => some n
  | _ => none

/-- UP, WEAK or HELD: the states in which RX and TX slots run and observations apply (R18, R78, R98). -/
def LinkState.heard : LinkState → Bool
  | .up | .weak | .held => true
  | .vacant | .seeking | .lost => false

end Sys2Proof.Machine
end

