-- ==== Sys2Proof/Machine/Memory.lean ====
section
/-! DEFINITION. The page memory of the frame store (R62): byte `k` of page `p` is at address 96·p + k. It is held as a
list of cells in one canonical form: addresses strictly rising, and no cell that reads as an unlisted address does. -/

namespace Sys2Proof.Machine

open Sys2Proof

/-- What an address reads as that nothing has written: DESIGN CHOICE 0 (log 7). No frame reads such a byte. -/
def unlistedByte : Byte := 0

/-- The byte at an address. -/
def memRead : List Host.Cell → Nat → Byte
  | [], _ => unlistedByte
  | (b, v) :: rest, a => if a = b then v else memRead rest a

/-- The memory with `v` at address `a`, in canonical form. -/
def memWrite : List Host.Cell → Nat → Byte → List Host.Cell
  | [], a, v => if v = unlistedByte then [] else [(a, v)]
  | (b, w) :: rest, a, v =>
    if a < b then (if v = unlistedByte then (b, w) :: rest else (a, v) :: (b, w) :: rest)
    else if a = b then (if v = unlistedByte then rest else (a, v) :: rest)
    else (b, w) :: memWrite rest a v

/-- Every address of the memory is above `lo`, they rise strictly, and no cell holds the unlisted byte. -/
def Memory.wfAbove (lo : Option Nat) : List Host.Cell → Bool
  | [] => true
  | (b, v) :: rest =>
    (match lo with | none => true | some l => decide (l < b)) && decide (v ≠ unlistedByte) && Memory.wfAbove (some b) rest

/-- The canonical form of the page memory. -/
def Memory.wf (m : List Host.Cell) : Bool := Memory.wfAbove none m

/-- Bytes written from an address on. -/
def memWriteBytes (m : List Host.Cell) (a : Nat) : List Byte → List Host.Cell
  | [] => m
  | v :: rest => memWriteBytes (memWrite m a v) (a + 1) rest

/-- `n` bytes read from an address on. -/
def memReadBytes (m : List Host.Cell) (a : Nat) : Nat → List Byte
  | 0 => []
  | n + 1 => memRead m a :: memReadBytes m (a + 1) n

/-- The size of a page in bytes (R62). -/
def pageSize : Nat := 96

/-- A payload written into its pages, the first 96 bytes into the first page listed, and so on (R62). -/
def writePages (m : List Host.Cell) : List Nat → List Byte → List Host.Cell
  | [], _ => m
  | p :: ps, bytes => writePages (memWriteBytes m (pageSize * p) (bytes.take pageSize)) ps (bytes.drop pageSize)

/-- The `len` payload bytes that these pages hold, in the order of the list (R62). -/
def readPages (m : List Host.Cell) : List Nat → Nat → List Byte
  | [], _ => []
  | p :: ps, len => memReadBytes m (pageSize * p) (min pageSize len) ++ readPages m ps (len - pageSize)

end Sys2Proof.Machine
end

