-- ==== Sys2Proof/Machine/Encode.lean ====
section
/-! DEFINITION. The outbound records (R175): the encoding of each field, of each result body, of each notice, and of FRAME
and EMPTY records. Where R175 does not fix an encoding the choice is log 9. -/

namespace Sys2Proof.Machine

open Sys2Proof

/-! ## Fields -/

/-- A field of one byte. -/
def oneByte (n : Nat) : List Byte := [BitVec.ofNat 8 n]

/-- An unsigned field of two bytes, most-significant first. -/
def twoBytes (n : Nat) : List Byte := halfBytes (BitVec.ofNat 16 n)

/-- A signed field of two bytes. -/
def signedTwo (x : Int) : List Byte := halfBytes (BitVec.ofInt 16 x)

/-- A signed field of four bytes. -/
def signedFour (x : Int) : List Byte :=
  let w := BitVec.ofInt 32 x
  [w.extractLsb' 24 8, w.extractLsb' 16 8, w.extractLsb' 8 8, w.extractLsb' 0 8]

/-- A flag: 0 clear, 1 set. -/
def flagByte (f : Bool) : List Byte := oneByte (if f then 1 else 0)

/-- An optional index of one byte: FF absent. -/
def optOne {n : Nat} (x : Option (Fin n)) : List Byte := oneByte (match x with | some i => i.val | none => 0xFF)

/-- An optional unsigned field of two bytes: FFFF absent. -/
def optTwo (x : Option Nat) : List Byte := twoBytes (x.getD 0xFFFF)

/-- An optional threshold, sample, margin or accumulator: −32768 absent. -/
def optSigned (x : Option Int) : List Byte := signedTwo (x.getD (-32768))

/-- An optional alignment difference: −2147483648 absent. -/
def optDiff (x : Option Int) : List Byte := signedFour (x.getD (-2147483648))

/-- An optional epoch, in two bytes: FFFF absent. -/
def optEpoch (x : Option Byte) : List Byte := optTwo (x.map BitVec.toNat)

/-- An optional path entry index: FFFF absent. -/
def optEntryIdx (x : Option EntryIdx) : List Byte := optTwo (x.map Fin.val)

/-- An optional name: R175 gives no absent value (log 8). -/
def optName (x : Option Nat) : List Byte := match x with | some n => oneByte n | none => [Config.absentName]

/-- A list: the entry count, then the entries (R175). -/
def listBytes {α : Type} (f : α → List Byte) (l : List α) : List Byte := oneByte l.length ++ l.flatMap f

/-! ## Numbers of names: from 0 in the order of the table that defines the set (R175) -/

/-- R157, R175. -/
def ResultCode.number : ResultCode → Nat
  | .ok => 0 | .parked => 1 | .format => 2 | .range => 3 | .state => 4 | .full => 5 | .queue => 6 | .nomatch => 7
  | .noroute => 8 | .local => 9 | .discarded => 10 | .nobuf => 11 | .mapfault => 12

/-- R175. -/
def Malformed.number : Malformed → Nat
  | .kind => 0 | .length => 1 | .short => 2

/-- R16. -/
def LinkState.number : LinkState → Nat
  | .vacant => 0 | .seeking => 1 | .weak => 2 | .up => 3 | .lost => 4 | .held => 5

/-- FREE is 0 (R175). -/
def RouteState.number : RouteState → Nat
  | .live => 1 | .parked => 2 | .barred => 3

/-- R38. -/
def Action.number : Action → Nat
  | .forward _ => 0 | .deliver => 1 | .discard => 2

/-- The next hop of an action: present for FORWARD only (R38). -/
def Action.hop : Action → Option NbrIdx
  | .forward n => some n
  | .deliver => none
  | .discard => none

/-- The ingress number: 16 for local (R38). -/
def Ingress.number : Ingress → Nat
  | .nbr n => n.val
  | .host => 16

/-- R41. -/
def Profile.number : Profile → Nat
  | .a => 0 | .b => 1

/-- R135. -/
def ScanMode.number : ScanMode → Nat
  | .once => 0 | .onceLocked => 1 | .repeat => 2 | .step => 3

/-- R137. -/
def ScanTag.number : ScanTag → Nat
  | .idle => 0 | .armed => 1 | .dwelling => 2 | .paused => 3 | .waiting => 4

/-- R148. -/
def ScanOutcome.number : ScanOutcome → Nat
  | .started => 0 | .restarted => 1 | .resumed => 2 | .ignored => 3

/-- R171. -/
def StartCause.number : StartCause → Nat
  | .power => 0 | .pin => 1 | .coldRequest => 2 | .warmRequest => 3

/-- R34. -/
def LinkCause.number : LinkCause → Nat
  | .enrol => 0 | .acquired => 1 | .epoch => 2 | .fade => 3 | .recover => 4 | .miss => 5 | .timeout => 6
  | .handover => 7 | .confirm => 8 | .retire => 9

/-- R133. -/
def SchedCause.number : SchedCause → Nat
  | .driftSet => 0 | .driftCleared => 1 | .syncCleared => 2

/-- R170. -/
def Edge.number : Edge → Nat
  | .asserted => 0 | .released => 1

/-- R170. -/
def Cut.number : Cut → Nat
  | .none => 0 | .burst => 1 | .ackset => 2 | .beacon => 3

/-- The settings by their place in the table of R13 (log 27). -/
def SettingName.number : SettingName → Nat
  | .k => 0 | .tF => 1 | .tR => 2 | .wF => 3 | .wR => 4 | .missLimit => 5 | .thresholds => 6 | .hyst => 7
  | .retryLimit => 8 | .acqLimit => 9 | .queueLimit => 10

/-! ## Groups of fields -/

/-- The thirteen values of the link settings, in the order of the request (R13, R175). -/
def LinkSettings.bytes (c : LinkSettings) : List Byte :=
  oneByte c.k ++ signedTwo c.tF ++ signedTwo c.tR ++ oneByte c.wF ++ oneByte c.wR ++ oneByte c.missLimit
    ++ signedTwo c.t1 ++ signedTwo c.t2 ++ signedTwo c.t3 ++ oneByte c.hyst ++ oneByte c.retryLimit
    ++ oneByte c.acqLimit ++ oneByte c.queueLimit

/-- An entry: state, key, action, next hop, hit count (R47, R54). DESIGN CHOICE (log 9): R175 names no type for an ingress, so the
byte for the absent ingress of a FREE entry is open; the model sends FF, as for an index. The absent action is log 8. -/
def entryBytes : Entry → List Byte
  | none => oneByte 0 ++ optTwo none ++ optOne (n := 8) none ++ optOne (n := 17) none ++ optName none
      ++ optOne (n := 16) none ++ twoBytes 0
  | some r => oneByte r.state.number ++ twoBytes r.key.dest.toNat ++ oneByte r.key.cls.toNat ++ oneByte r.key.ing.number
      ++ oneByte r.action.number ++ optOne r.action.hop ++ twoBytes r.hits

/-- A mask profile: ignore set, class compare flag, ingress compare flag (R41, R45). -/
def Mask.bytes (m : Mask) : List Byte := twoBytes m.ignore.toNat ++ flagByte m.cmpClass ++ flagByte m.cmpIngress

/-- An identity that may be absent: node id and epoch (R171). -/
def optIdentity (i : Option Identity) : List Byte := optTwo (i.map (·.nodeId)) ++ optEpoch (i.map (·.epoch))

/-- The set of transmit holds: bit 0 IDENTITY, bit 1 SUPPLY, bit 2 DRIFT (R175). -/
def Holds.byte (h : Holds) : Byte := flagBit 0 h.identity ||| flagBit 1 h.supply ||| flagBit 2 h.drift

/-- The scanner's settings (R135). DESIGN CHOICE (log 9): R175 names no type for the set of trigger sources; REQUEST, which is
always present, is not sent, and BOUNDARY and LOSS are sent as a flag each, in the order of the request (R147). -/
def ScanSettings.bytes (c : ScanSettings) : List Byte :=
  oneByte c.mode.number ++ oneByte c.start.val ++ oneByte c.stop.val ++ flagByte c.boundary ++ flagByte c.loss

/-- The seven counters of a neighbour, in the order of R33. -/
def NbrCounters.bytes (c : NbrCounters) : List Byte :=
  twoBytes c.sent ++ twoBytes c.acked ++ twoBytes c.retries ++ twoBytes c.received ++ twoBytes c.duplicates
    ++ twoBytes c.stale ++ twoBytes c.refused

/-- The report of a neighbour, in the order of the table of R32. DESIGN CHOICE (log 9): the six sector margins, whose number is
fixed, are sent without a count byte. -/
def NbrReport.bytes (r : NbrReport) : List Byte :=
  oneByte r.state.number ++ optTwo r.nodeId ++ optOne r.sector ++ optEpoch r.epoch ++ optSigned r.acc
    ++ optSigned r.margin ++ flagByte r.reseed ++ oneByte r.tier.val ++ oneByte r.cap.val ++ oneByte r.fade
    ++ oneByte r.good ++ oneByte r.miss ++ r.margins.toList.flatMap optSigned ++ twoBytes r.txSeq.toNat
    ++ optTwo (r.high.map BitVec.toNat) ++ listBytes (fun q : Seq => twoBytes q.toNat) r.seen ++ oneByte r.age
    ++ oneByte r.queueLen ++ r.counters.bytes

/-- The eight discard counters, in the order of R73. -/
def Discards.bytes (d : Discards) : List Byte :=
  twoBytes d.retry ++ twoBytes d.airtime ++ twoBytes d.hops ++ twoBytes d.reflect ++ twoBytes d.queue
    ++ twoBytes d.noroute ++ twoBytes d.retired ++ twoBytes d.action

/-- The report of STATUS, in the order of the table of R171. -/
def StatusReport.bytes (r : StatusReport) : List Byte :=
  oneByte r.cause.number ++ flagByte r.latch ++ flagByte r.level ++ optIdentity r.identity ++ flagByte r.running
    ++ [r.holds.byte] ++ oneByte r.active.val ++ twoBytes r.slotLen ++ halfBytes r.count ++ optOne r.sync
    ++ optDiff r.lastD ++ oneByte r.profile.number ++ twoBytes r.freeEntries ++ optEntryIdx r.nextFree
    ++ oneByte r.freePages ++ oneByte r.freeRecords ++ oneByte r.deliveryLen ++ oneByte r.scanner.number
    ++ optOne r.current ++ twoBytes r.ignored

/-! ## Result bodies -/

/-- The result body of a reply, its fields in the order in which the owning rule names them (R175). DESIGN CHOICE (log 29): of
a changed entry the index and the entry as it now stands are clocked out (R52, R53, R56), and not the state it had (R61). -/
def ReplyBody.bytes : ReplyBody → List Byte
  | .empty => []
  | .format len reason taken => optTwo len ++ oneByte reason.number ++ twoBytes taken
  | .settings now clamped => now.bytes ++ listBytes (fun n : SettingName => oneByte n.number) clamped
  | .enrolled n cap clamped => oneByte n.val ++ oneByte cap.val ++ flagByte clamped
  | .retired entries frames => twoBytes entries ++ oneByte frames
  | .linkState st => oneByte st.number
  | .neighbour r => r.bytes
  | .found i multiple e => twoBytes i.val ++ flagByte multiple ++ entryBytes e
  | .entryAt i _ now => twoBytes i.val ++ entryBytes now
  | .entry e => entryBytes e
  | .freed n => twoBytes n
  | .masks a b active => a.bytes ++ b.bytes ++ oneByte active.number
  | .sent h hop q hops i => oneByte h.val ++ oneByte hop.val ++ twoBytes q.toNat ++ oneByte hops.toNat ++ twoBytes i.val
  | .notSent hops winner =>
    oneByte hops.toNat ++ optEntryIdx (winner.map (·.1)) ++ optName (winner.map fun w => w.2.number)
  | .counters d checkFail foreign => d.bytes ++ twoBytes checkFail ++ twoBytes foreign
  | .slotLength value differed => twoBytes value ++ flagByte differed
  | .mapWritten m valid sum => oneByte m.val ++ flagByte valid ++ halfBytes sum
  | .mapRead map valid sum active =>
    map.codes.toList.flatMap halfBytes ++ halfBytes map.check ++ flagByte valid ++ halfBytes sum ++ flagByte active
  | .activeMap m => oneByte m.val
  | .activeMapAt m count => oneByte m.val ++ halfBytes count
  | .mapFault m sum => oneByte m.val ++ halfBytes sum
  | .mapFaultAt m sum count => oneByte m.val ++ halfBytes sum ++ halfBytes count
  | .stopped count slot => halfBytes count ++ optOne slot
  | .timing sync driftCleared => optOne sync ++ flagByte driftCleared
  | .scanSettings now => now.bytes
  | .scanRefused now state => now.bytes ++ oneByte state.number
  | .scanStarted outcome state current ignored =>
    oneByte outcome.number ++ oneByte state.number ++ optOne current ++ twoBytes ignored
  | .scanHalted state current => oneByte state.number ++ optOne current
  | .identified now was holdRemoved =>
    twoBytes now.nodeId ++ [now.epoch] ++ optIdentity was ++ flagByte holdRemoved
  | .identifyRefused now running => optIdentity now ++ flagByte running
  | .status r => r.bytes
  | .restarted identity wasRunning => optIdentity identity ++ flagByte wasRunning

/-! ## Records -/

/-- A record: kind byte, body length in two bytes, body (R175). -/
def recordBytes (kind : Byte) (body : List Byte) : List Byte := kind :: (twoBytes body.length ++ body)

/-- A reply record: request kind (00 when absent), result code, result body (R175). -/
def Reply.record (r : Reply) : List Byte :=
  recordBytes 0x80 (r.kind.getD 0 :: (oneByte r.code.number ++ r.body.bytes))

/-- One beacon of a scan report (R143). -/
def ReportBeacon.bytes (b : ReportBeacon) : List Byte :=
  twoBytes b.nodeId ++ [b.epoch] ++ signedTwo b.sample ++ optOne b.enrolled

/-- The kind byte of a notice (R175). -/
def NoticeContent.kind : NoticeContent → Byte
  | .link _ _ _ _ _ _ _ => 0xC1
  | .scanner _ _ _ _ _ _ _ _ _ _ _ _ => 0xC2
  | .scheduler _ _ _ _ _ => 0xC3
  | .supply _ _ _ _ _ => 0xC4
  | .start _ _ _ _ => 0xC5

/-- The body of a notice, in the order of its rule: R35, R143 (no change count), R133, R170, R174. DESIGN CHOICE (log 9): the next
sector of a SCANNER notice has its byte in every state, FF where the scanner is not WAITING. -/
def Notice.body (n : Notice) : List Byte :=
  match n.content with
  | .link i id st cause sector epoch margin =>
    oneByte i.val ++ optTwo id ++ oneByte st.number ++ oneByte cause.number ++ oneByte n.changes ++ optOne sector
      ++ optEpoch epoch ++ optSigned margin ++ optTwo (n.rescue.map (·.moved)) ++ optTwo (n.rescue.map (·.dropped))
  | .scanner sector count slot floor beacons more heard failed other st current next =>
    oneByte sector.val ++ halfBytes count ++ oneByte slot.val ++ twoBytes floor.toNat
      ++ listBytes ReportBeacon.bytes beacons ++ flagByte more ++ oneByte heard ++ oneByte failed ++ oneByte other
      ++ oneByte st.number ++ optOne current ++ optOne next
  | .scheduler cause drift sync d count =>
    oneByte cause.number ++ flagByte drift ++ optOne sync ++ optDiff d ++ halfBytes count ++ oneByte n.changes
  | .supply edge level latch cut count =>
    oneByte edge.number ++ flagByte level ++ flagByte latch ++ optName (cut.map Cut.number) ++ halfBytes count
      ++ oneByte n.changes
  | .start cause identity level latch =>
    oneByte cause.number ++ optIdentity identity ++ flagByte level ++ flagByte latch ++ oneByte n.changes

/-- A notice record (R175). -/
def Notice.record (n : Notice) : List Byte := recordBytes n.content.kind n.body

/-- A FRAME record: ingress, destination, class, hops, length, unrouted flag, payload (R71, R175). -/
def frameRecord (f : FrameRec) (payload : List Byte) : List Byte :=
  recordBytes 0xE0 (oneByte f.ing.number ++ twoBytes f.dest.toNat ++ oneByte f.cls.toNat ++ oneByte f.hops.toNat
    ++ twoBytes f.len ++ flagByte (f.unrouted.getD false) ++ payload)

/-- An EMPTY record: no body (R159, R175). -/
def emptyRecord : List Byte := recordBytes 0xF0 []

end Sys2Proof.Machine
end

