-- ==== Sys2Proof/Machine/Margin.lean ====
section
/-! DEFINITION. Link margin arithmetic (01): samples, smoothing, margin, tier, airtime, slot body. All exact. -/

namespace Sys2Proof.Machine

open Sys2Proof

/-- A measured value kept within `lo..hi` (R3: a saturation, no error). -/
def clampInt (lo hi x : Int) : Int := if x < lo then lo else if hi < x then hi else x

/-- A tuning value kept within `lo..hi` (R13). -/
def clampNat (lo hi x : Nat) : Nat := if x < lo then lo else if hi < x then hi else x

/-- The sample of an energy code against a noise floor: the difference clamped to −128..383 (R3). -/
def sampleOf (c floor : Code) : Int := clampInt (-128) 383 ((c.toNat : Int) - (floor.toNat : Int))

/-- The smoothing update of R6. Lean's `/` by a positive number rounds toward minus infinity. -/
def smooth (k : Nat) (acc : Option Int) (reseed : Bool) (s : Int) : Int :=
  match acc, reseed with
  | some a, false => a + (16 * s - a) / (2 ^ k : Nat)
  | _, _ => 16 * s

/-- The margin of an accumulator, rounding toward minus infinity (R7). -/
def marginOf (a : Int) : Int := a / 16

/-- The number of tier thresholds at or below a margin (R8, first step). -/
def tierCount (ls : LinkSettings) (m : Int) : Nat :=
  (if ls.t1 ≤ m then 1 else 0) + (if ls.t2 ≤ m then 1 else 0) + (if ls.t3 ≤ m then 1 else 0)

/-- The rate tier of a margin, lowered to the tier cap; tier 0 where the margin is absent (R8). -/
def tierOf (ls : LinkSettings) (cap : Fin 4) (m : Option Int) : Fin 4 :=
  match m with
  | none => 0
  | some m => if h : tierCount ls m ≤ cap.val then ⟨tierCount ls m, by omega⟩ else cap

/-- The byte cost of a tier in air ticks (R9). -/
def byteCost (t : Fin 4) : Nat :=
  match t with
  | 0 => 8
  | 1 => 4
  | 2 => 2
  | 3 => 1

/-- The airtime of a DATA or HOLD frame in air ticks (R10). -/
def airtime (cost len : Nat) : Nat := 320 + (24 + len) * cost

/-- The burst airtime of the frames with these payload lengths: their airtimes and the 128-tick gaps between them (R11). -/
def burstAirtime (cost : Nat) : List Nat → Nat
  | [] => 0
  | [len] => airtime cost len
  | len :: rest => airtime cost len + 128 + burstAirtime cost rest

/-- The slot body of a slot of length `slotLen` µs, in air ticks (R12). -/
def slotBody (slotLen : Nat) : Nat := 8 * (slotLen - 120)

end Sys2Proof.Machine
end

