-- ==== Sys2Proof/Machine/Ops.lean ====
section
/-! DEFINITION. The shared operations over the state: reading and writing its tables, posting notices (R158, R161), frame
lookups (R42 to R44), parking (R58, R59), storing, placing and releasing frames (R62 to R70), the scanner's triggers
(R139), a neighbour's change of state (R22) with its rescue (R96), and observations (R18 to R21). -/

namespace Sys2Proof.Machine

open Sys2Proof

/-! ## Reading and writing tables -/

/-- Neighbour record `n`. -/
def State.nbr (s : State) (n : NbrIdx) : Nbr := s.mon.nbrs.look n

/-- The state with neighbour record `n` replaced. -/
def State.setNbr (s : State) (n : NbrIdx) (r : Nbr) : State :=
  { s with mon := { s.mon with nbrs := s.mon.nbrs.put n r } }

/-- The state with neighbour record `n` changed by `f`. -/
def State.modNbr (s : State) (n : NbrIdx) (f : Nbr → Nbr) : State := s.setNbr n (f (s.nbr n))

/-- Path entry `i`. -/
def State.entry (s : State) (i : EntryIdx) : Entry := s.path.entries.look i

/-- The state with path entry `i` replaced. -/
def State.setEntry (s : State) (i : EntryIdx) (e : Entry) : State :=
  { s with path := { s.path with entries := s.path.entries.put i e } }

/-- Neighbour `n`'s transmit queue. -/
def State.queue (s : State) (n : NbrIdx) : List Handle := s.store.queues.look n

/-- The state with neighbour `n`'s transmit queue replaced. -/
def State.setQueue (s : State) (n : NbrIdx) (q : List Handle) : State :=
  { s with store := { s.store with queues := s.store.queues.put n q } }

/-- Frame record `h`. -/
def State.frame (s : State) (h : Handle) : Option FrameRec := s.store.frames.look h

/-- The state with frame record `h` replaced. -/
def State.setFrame (s : State) (h : Handle) (f : Option FrameRec) : State :=
  { s with store := { s.store with frames := s.store.frames.put h f } }

/-- The state with the front end changed. -/
def State.setRadio (s : State) (r : Radio) : State := { s with radio := r }

/-- The state with the scheduler changed. -/
def State.setSched (s : State) (c : Scheduler) : State := { s with sched := c }

/-- The state with the scanner changed. -/
def State.setScan (s : State) (c : Scanner) : State := { s with scan := c }

/-- The state with the host link changed. -/
def State.setLink (s : State) (l : HostLink) : State := { s with link := l }

/-- The state with the path table changed. -/
def State.setPath (s : State) (t : PathTable) : State := { s with path := t }

/-- The state with the supply and identity block changed. -/
def State.setPart (s : State) (p : Part) : State := { s with part := p }

/-- The part's own node id as a 16-bit field; 0, "none" (00, section 3), while the identity is absent. -/
def State.ownId (s : State) : Half :=
  match s.part.identity with
  | some i => BitVec.ofNat 16 i.nodeId
  | none => 0

/-- A neighbour's node id as a 16-bit field; 0, "none", while it is absent. -/
def Nbr.idField (r : Nbr) : Half :=
  match r.nodeId with
  | some i => BitVec.ofNat 16 i
  | none => 0

/-- The lowest non-VACANT record that holds a node id (R23, R29, R168). -/
def State.nbrWithId (s : State) (id : Nat) : Option NbrIdx :=
  s.mon.nbrs.lowest fun r => r.state != .vacant && r.nodeId == some id

/-! ## Notices (R158, R161) -/

/-- Rescue counts added to those carried, each stopping at 65535; absent while no rescue has run (R35). -/
def addRescue (old new : Option Rescue) : Option Rescue :=
  match old, new with
  | none, r => r
  | some a, none => some a
  | some a, some b => some ⟨satAdd 65535 a.moved b.moved, satAdd 65535 a.dropped b.dropped⟩

/-- The pending set holds a notice of this source (R158). -/
def State.isPending (s : State) (src : Source) : Bool := s.link.notices.any fun n => n.source == src

/-- A posting into the pending set: in place where the source's notice is pending, else at the tail (R158, R34, R35). -/
def postInto (src : Source) (content : NoticeContent) (rescue : Option Rescue) (set : List Notice) : List Notice :=
  if set.any fun n => n.source == src then
    set.map fun n =>
      if n.source == src then
        { n with content := content, changes := bump 255 n.changes, rescue := addRescue n.rescue rescue }
      else n
  else set ++ [{ source := src, content := content, changes := 1, rescue := rescue }]

/-- The posting enters the carry where the source's notice is the offered item of a READ in progress (R161). -/
def carryPosting (src : Source) (rescue : Option Rescue) : Phase → Phase
  | .reading item record c =>
    if item = .notice src then
      .reading item record { postings := bump 255 c.postings, rescue := addRescue c.rescue rescue }
    else .reading item record c
  | p => p

/-- A notice posted (R158, R161). -/
def State.post (s : State) (src : Source) (content : NoticeContent) (rescue : Option Rescue) : State :=
  s.setLink { s.link with notices := postInto src content rescue s.link.notices,
                          phase := carryPosting src rescue s.link.phase }

/-- Neighbour `n`'s LINK notice posted with its record as it stands (R34, R35). DESIGN CHOICE (log 32): it carries the margin and
not A, as the fields of R35 have it, where R7 says that the notice reports the margin with A. -/
def State.postLink (s : State) (n : NbrIdx) (cause : LinkCause) (rescue : Option Rescue) : State :=
  let r := s.nbr n
  s.post (.link n) (.link n r.nodeId r.state cause r.sector r.epoch (r.acc.map marginOf)) rescue

/-- The SCHEDULER notice posted (R133). -/
def State.postSched (s : State) (cause : SchedCause) (d : Option Int) : State :=
  s.post .scheduler (.scheduler cause s.sched.holds.drift s.sched.sync d s.sched.count) none

/-! ## Path table: comparison, lookups, parking -/

/-- An entry key matches a frame key under a profile (R42). -/
def Mask.matches (p : Mask) (k q : Key) : Bool :=
  (k.dest &&& ~~~p.ignore) == (q.dest &&& ~~~p.ignore)
    && (!p.cmpClass || k.cls == q.cls)
    && (!p.cmpIngress || k.ing == q.ing)

/-- The active mask profile (R41). -/
def PathTable.mask (t : PathTable) : Mask :=
  match t.active with
  | .a => t.maskA
  | .b => t.maskB

/-- The entry is in this state, and its key, if one is asked for, matches under the profile (R43, R48). -/
def entryMatches (p : Mask) (st : RouteState) (q : Option Key) : Entry → Bool
  | none => false
  | some r => r.state == st && (match q with | none => true | some q => p.matches r.key q)

/-- The lowest LIVE entry that matches a key under the active profile (R43). -/
def PathTable.winner (t : PathTable) (q : Key) : Option EntryIdx :=
  t.entries.lowest (entryMatches t.mask .live (some q))

/-- The route of an entry with its hit count raised, stopping at 65535 (R44). -/
def Route.hit (r : Route) : Route := { r with hits := bump 65535 r.hits }

/-- A frame lookup: the winner's index and route, and the state with its hit count raised (R43, R44). -/
def State.frameLookup (s : State) (q : Key) : Option (EntryIdx × Route) × State :=
  match s.path.winner q with
  | none => (none, s)
  | some i =>
    match s.entry i with
    | none => (none, s)
    | some r => (some (i, r), s.setEntry i (some r.hit))

/-- Every LIVE entry that forwards to `n` becomes PARKED (R58). -/
def parkEntry (n : NbrIdx) : Entry → Entry
  | none => none
  | some r => if r.state = .live ∧ r.action = .forward n then some { r with state := .parked } else some r

/-- Every PARKED entry whose next hop is `n` becomes LIVE (R59). -/
def unparkEntry (n : NbrIdx) : Entry → Entry
  | none => none
  | some r => if r.state = .parked ∧ r.action = .forward n then some { r with state := .live } else some r

/-- The parking rule when `n` leaves UP, in one associative update (R58). -/
def State.park (s : State) (n : NbrIdx) : State :=
  s.setPath { s.path with entries := s.path.entries.each (parkEntry n) }

/-- The parking rule when `n` enters UP, in one associative update (R59). -/
def State.unpark (s : State) (n : NbrIdx) : State :=
  s.setPath { s.path with entries := s.path.entries.each (unparkEntry n) }

/-- The last-match index after the entries that satisfy `freed` are freed (R57, R60). -/
def PathTable.lastAfter (t : PathTable) (freed : Entry → Bool) : Option EntryIdx :=
  match t.lastMatch with
  | none => none
  | some i => if freed (t.entries.look i) then none else some i

/-- Every entry that satisfies `freed` becomes FREE with hit count 0, in one associative update (R57, R60). -/
def State.freeEntries (s : State) (freed : Entry → Bool) : State :=
  s.setPath { s.path with entries := s.path.entries.each (fun e => if freed e then none else e),
                          lastMatch := s.path.lastAfter freed }

/-- Next-free: the lowest FREE entry (R49). -/
def PathTable.nextFree (t : PathTable) : Option EntryIdx := t.entries.lowest Option.isNone

/-! ## Frame store -/

/-- The number of pages a payload of `len` bytes holds: ceil(len/96) (R62). -/
def pagesFor (len : Nat) : Nat := (len + 95) / 96

/-- The pages held by frame records in use (R65). -/
def FrameStore.heldPages (st : FrameStore) : Nat :=
  (st.frames.toList.map fun f => match f with | none => 0 | some f => f.pages.length).sum

/-- The number of free pages: 160 less those held (R65). -/
def FrameStore.freePages (st : FrameStore) : Nat := 160 - st.heldPages

/-- The number of free frame records (R65). -/
def FrameStore.freeRecords (st : FrameStore) : Nat := st.frames.count Option.isNone

/-- The lowest free handle (R63). -/
def FrameStore.freeHandle (st : FrameStore) : Option Handle := st.frames.lowest Option.isNone

/-- The handle an allocation of `len` bytes would take, or none on a shortfall of records or pages (R64). -/
def FrameStore.allocHandle (st : FrameStore) (len : Nat) : Option Handle :=
  if pagesFor len ≤ st.freePages then st.freeHandle else none

/-- Pages taken from the pool, and the pool left. Which page is taken is free (R62, log 6). -/
def takePages : Nat → Nat → List Nat → List Nat × List Nat
  | 0, _, pool => ([], pool)
  | k + 1, c, pool =>
    let p := pool.getD (Config.pagePick c % pool.length) 0
    let left := takePages k (c + 1) (pool.erase p)
    (p :: left.1, left.2)

/-- A payload stored in record `h` with its fixed fields; the record has no place in a queue yet (R62, R63, R64). -/
def State.allocate (s : State) (h : Handle) (ing : Ingress) (dest : BitVec 12) (cls : BitVec 3) (hops : BitVec 4)
    (payload : List Byte) : State :=
  let k := pagesFor payload.length
  let taken := takePages k s.store.picks s.store.pool
  let f : FrameRec :=
    { place := .delivery, ing := ing, dest := dest, cls := cls, hops := hops, len := payload.length, pages := taken.1,
      seq := none, retries := none, unrouted := none }
  { s with store := { s.store with frames := s.store.frames.put h (some f), pool := taken.2,
                                   mem := writePages s.store.mem taken.1 payload, picks := s.store.picks + k } }

/-- Record `h` at the tail of `m`'s transmit queue, with the next sequence of `m`'s counter and retries 0 (R67, R68). -/
def State.appendQueue (s : State) (m : NbrIdx) (h : Handle) : State :=
  let q := (s.nbr m).txSeq
  let s := s.setFrame h ((s.frame h).map fun f =>
    { f with place := .queue m, seq := some q, retries := some 0, unrouted := none })
  let s := s.modNbr m fun r => { r with txSeq := q + 1 }
  s.setQueue m (s.queue m ++ [h])

/-- Record `h` at the tail of the delivery queue (R66, R70). -/
def State.appendDelivery (s : State) (h : Handle) (unrouted : Bool) : State :=
  let s := s.setFrame h ((s.frame h).map fun f =>
    { f with place := .delivery, seq := none, retries := none, unrouted := some unrouted })
  { s with store := { s.store with delivery := s.store.delivery ++ [h] } }

/-- `m`'s queue holds fewer frames than the queue limit in force (R67). -/
def State.queueHasRoom (s : State) (m : NbrIdx) : Bool := decide ((s.queue m).length < s.mon.settings.queueLimit)

/-- Record `h` and its pages returned to the free sets (R65). The caller takes it from its place. -/
def State.release (s : State) (h : Handle) : State :=
  match s.frame h with
  | none => s
  | some f => { s with store := { s.store with frames := s.store.frames.put h none, pool := s.store.pool ++ f.pages } }

/-- The counter of a reason raised by 1, stopping at 65535 (R72). -/
def Discards.raise (d : Discards) : Reason → Discards
  | .retry => { d with retry := bump 65535 d.retry }
  | .airtime => { d with airtime := bump 65535 d.airtime }
  | .hops => { d with hops := bump 65535 d.hops }
  | .reflect => { d with reflect := bump 65535 d.reflect }
  | .queue => { d with queue := bump 65535 d.queue }
  | .noroute => { d with noroute := bump 65535 d.noroute }
  | .retired => { d with retired := bump 65535 d.retired }
  | .action => { d with action := bump 65535 d.action }

/-- One discard counted (R72). -/
def State.countDiscard (s : State) (why : Reason) : State :=
  { s with store := { s.store with discards := s.store.discards.raise why } }

/-- A stored frame discarded: counted and released (R65, R72). The caller takes it from its place. -/
def State.discard (s : State) (why : Reason) (h : Handle) : State := (s.release h).countDiscard why

/-- The payload of a stored frame (R62). -/
def State.payload (s : State) (f : FrameRec) : List Byte := readPages s.store.mem f.pages f.len

/-! ## Scanner triggers (R138, R139) -/

/-- The front end after an abandoned dwell: RXON released (R146). DESIGN CHOICE (log 11): no sector stays selected. -/
def Radio.quiet (r : Radio) : Radio := { r with rxon := false, sector := none }

/-- The scanner ARMED at the start sector; an open dwell is abandoned (R139, R146). -/
def State.restartScan (s : State) : State :=
  let s := match s.scan.state with
    | .dwelling _ => s.setRadio s.radio.quiet
    | _ => s
  s.setScan { s.scan with state := .armed s.scan.settings.start }

/-- A trigger ignored and counted (R139). -/
def State.ignoreTrigger (s : State) : State := s.setScan { s.scan with ignored := bump 65535 s.scan.ignored }

/-- A trigger at the scanner, judged by its state and mode (R139). -/
def State.trigger (s : State) : State × ScanOutcome :=
  match s.scan.state, s.scan.settings.mode with
  | .idle, _ => (s.restartScan, .started)
  | .waiting _ next, .step => (s.setScan { s.scan with state := .armed next }, .resumed)
  | _, .once => (s.restartScan, .restarted)
  | _, _ => (s.ignoreTrigger, .ignored)

/-- The LOSS trigger of an entry into LOST, where LOSS is among the trigger sources (R138). -/
def State.lossTrigger (s : State) : State := if s.scan.settings.loss then s.trigger.1 else s

/-- The BOUNDARY trigger of a superframe boundary, where BOUNDARY is among the trigger sources (R138). -/
def State.boundaryTrigger (s : State) : State := if s.scan.settings.boundary then s.trigger.1 else s

/-! ## Rescue (R95, R96) -/

/-- One frame of a lost neighbour's queue, already taken from it, disposed of by a lookup (R96). -/
def rescueOne (acc : State × Rescue) (h : Handle) : State × Rescue :=
  match acc.1.frame h with
  | none => acc
  | some f =>
    let moved : Rescue := { acc.2 with moved := acc.2.moved + 1 }
    let dropped : Rescue := { acc.2 with dropped := acc.2.dropped + 1 }
    let asked := acc.1.frameLookup { dest := f.dest, cls := f.cls, ing := f.ing }
    let s := asked.2
    match asked.1 with
    | none => (s.discard .noroute h, dropped)
    | some (_, r) =>
      match r.action with
      | .discard => (s.discard .action h, dropped)
      | .deliver => (s.appendDelivery h false, moved)
      | .forward m =>
        if f.ing = .nbr m then (s.discard .reflect h, dropped)
        else if s.queueHasRoom m then (s.appendQueue m h, moved)
        else (s.discard .queue h, dropped)

/-- The rescue of `n`'s transmit queue, head to tail, with its moved and dropped counts (R95, R96). -/
def State.rescue (s : State) (n : NbrIdx) : State × Rescue :=
  (s.queue n).foldl rescueOne (s.setQueue n [], ⟨0, 0⟩)

/-! ## A neighbour's change of state (R22) -/

/-- The three runs zeroed (R22). -/
def Nbr.clearRuns (r : Nbr) : Nbr := { r with fade := 0, good := 0, miss := 0 }

/-- The receive window cleared (R82). -/
def Nbr.clearWindow (r : Nbr) : Nbr := { r with high := none, seen := [] }

/-- A direct load of the accumulator from a beacon sample; it clears the reseed mark (R5). -/
def Nbr.load (r : Nbr) (x : Int) : Nbr := { r with acc := some (16 * x), reseed := false }

/-- The parking rule where the change leaves or enters UP (R22, step 1). -/
def State.parkFor (s : State) (n : NbrIdx) (old new : LinkState) : State :=
  if old = .up ∧ new ≠ .up then s.park n
  else if new = .up ∧ old ≠ .up then s.unpark n
  else s

/-- The effects of R22 after the record itself has changed, in order: parking, rescue, LOSS trigger, LINK notice. -/
def State.afterChange (s : State) (n : NbrIdx) (old new : LinkState) (cause : LinkCause) : State :=
  let s := s.parkFor n old new
  if new = .lost then
    let rescued := s.rescue n
    rescued.1.lossTrigger.postLink n cause (some rescued.2)
  else s.postLink n cause none

/-- Neighbour `n` enters a state: its runs are zeroed and the effects of R22 follow. -/
def State.changeState (s : State) (n : NbrIdx) (new : LinkState) (cause : LinkCause) : State :=
  let old := (s.nbr n).state
  (s.modNbr n fun r => { r.clearRuns with state := new }).afterChange n old new cause

/-! ## Observations (R18 to R21) -/

/-- One more, or back to 0: a run after an observation (R19, R20). -/
def runAfter (up : Bool) (run : Nat) : Nat := if up then bump 255 run else 0

/-- The smoothing update and the run counters of a sample observation (R6, R19). -/
def Nbr.sample (r : Nbr) (ls : LinkSettings) (s : Int) : Nbr :=
  let a := smooth ls.k r.acc r.reseed s
  let m := marginOf a
  { r with acc := some a, reseed := false, fade := runAfter (decide (m < ls.tF)) r.fade,
           good := runAfter (decide (ls.tR ≤ m)) r.good, miss := 0 }

/-- The run counters of a miss observation (R20). -/
def Nbr.missed (r : Nbr) : Nbr := { r with fade := bump 255 r.fade, good := 0, miss := bump 255 r.miss }

/-- The transition test: the state and the cause that follow an observation, if any (R21). -/
def Nbr.transition (r : Nbr) (ls : LinkSettings) : Option (LinkState × LinkCause) :=
  if r.state.heard ∧ ls.missLimit ≤ r.miss then some (.lost, .miss)
  else if r.state = .up ∧ ls.wF ≤ r.fade then some (.weak, .fade)
  else if r.state = .weak ∧ ls.wR ≤ r.good then some (.up, .recover)
  else none

/-- An observation delivered for neighbour `n`: a sample, or a miss. It is applied if `n` is UP, WEAK or HELD, and
discarded otherwise (R18). -/
def State.observe (s : State) (n : NbrIdx) (sample : Option Int) : State :=
  let r := s.nbr n
  if r.state.heard then
    let r := match sample with
      | some x => r.sample s.mon.settings x
      | none => r.missed
    let s := s.setNbr n r
    match r.transition s.mon.settings with
    | some (new, cause) => s.changeState n new cause
    | none => s
  else s

/-! ## Requests (R154, R156, R157) -/

/-- A reply posted into the reply place (R157). -/
def State.reply (s : State) (kind : Byte) (code : ResultCode) (body : ReplyBody) : State :=
  s.setLink { s.link with reply := some { kind := some kind, code := code, body := body } }

/-- A record reaches write completion: where a WRITE was taken while READY the owner carries the request out, and the
rest of the transaction has no effect (R154, R156). Bytes of any other transaction are ignored, and outside a
transaction the port takes none (R151, R154): the event changes nothing (log 1). -/
def State.takeRequest (s : State) (owner : State → State) : Host.Outcome State Fault Refusal :=
  if s.link.phase = .writing then .next (owner (s.setLink { s.link with phase := .spent })) else .next s

end Sys2Proof.Machine
end

