-- ==== Sys2Proof/Machine/HostPort.lean ====
section
/-! DEFINITION. The transactions of the serial port (09): SELECT_FALL, WRITE, READ, INVALID_TRANSACTION_KIND,
MALFORMED_RECORD, READ_COMPLETION, READ_ENDED_EARLY. -/

namespace Sys2Proof.Machine

open Sys2Proof

/-! ## The first byte -/

/-- The phase of the present transaction changed. -/
def State.setPhase (s : State) (p : Phase) : State := s.setLink { s.link with phase := p }

/-- The transaction-error flag changed (R153). -/
def State.setError (s : State) (e : Bool) : State := s.setLink { s.link with error := e }

/-- A READ that ends before its record is out: nothing is consumed, the carry is dropped, the error flag is set (R161,
R162). -/
def State.endReadEarly (s : State) : State :=
  match s.link.phase with
  | .reading _ _ _ => (s.setError true).setPhase .none
  | _ => s

/-- SELECT falls: the status byte is formed (R152). SELECT had risen, so a READ still open ended early (log 2). While a
start is in progress the part takes no transaction (R172). -/
def State.selectFall (s : State) : State :=
  if s.part.starting.isSome then s
  else
    let s := s.endReadEarly
    s.setPhase (.selected s.statusByte)

/-- The first byte is complete: a status byte that carried ERROR has been clocked out in full and clears the flag (R153). -/
def State.statusSent (s : State) (status : Byte) : State := if statusError status then s.setError false else s

/-- The WRITE kind byte is taken (R154). -/
def State.takeWrite (s : State) : State :=
  match s.link.phase with
  | .selected status =>
    let s := s.statusSent status
    if s.ready then s.setPhase .writing else (s.setError true).setPhase .spent
  | _ => s

/-- A first byte that is neither WRITE nor READ (R153). -/
def State.takeInvalid (s : State) : State :=
  match s.link.phase with
  | .selected status => ((s.statusSent status).setError true).setPhase .spent
  | _ => s

/-- The item that a READ offers, in the rank of R159. -/
def State.offer (s : State) : Item :=
  if s.link.reply.isSome then .reply
  else match s.link.notices with
    | n :: _ => .notice n.source
    | [] => match s.store.delivery with
      | h :: _ => .frame h
      | [] => .empty

/-- The record of an offered item as it stands (R159, R175). -/
def State.recordOf (s : State) : Item → List Byte
  | .reply => match s.link.reply with
    | some r => r.record
    | none => emptyRecord
  | .notice src => match s.link.notices.find? fun n => n.source == src with
    | some n => n.record
    | none => emptyRecord
  | .frame h => match s.frame h with
    | some f => frameRecord f (s.payload f)
    | none => emptyRecord
  | .empty => emptyRecord

/-- The READ kind byte is taken: the item is chosen once, and its record copied (R159). -/
def State.takeRead (s : State) : State :=
  match s.link.phase with
  | .selected status =>
    let s := s.statusSent status
    s.setPhase (.reading s.offer (s.recordOf s.offer) { postings := 0, rescue := none })
  | _ => s

/-! ## What the part clocks out (R151) -/

/-- A filler byte from the part (R175). -/
def fillerByte : Byte := 0

/-- The byte that the part sends as byte `k` of a transaction that stands at this phase: the link status byte in the first,
then, of a READ, the copy of the offered record from the second byte on and filler behind it; filler in every other
transaction. SDO is not driven outside a transaction (R151, R159, R172, R175). -/
def Phase.sends (k : Nat) : Phase → Option Byte
  | .none => Option.none
  | .selected status => some (if k = 0 then status else fillerByte)
  | .writing => some fillerByte
  | .reading _ record _ => some (match k with | 0 => fillerByte | j + 1 => record.getD j fillerByte)
  | .spent => some fillerByte

/-! ## Completion of a READ (R160, R161) -/

/-- The fresh notice of an offered notice that received postings: the latest content, the carry's counts (R161). -/
def freshNotice (n : Notice) (c : Carry) : Notice := { n with changes := c.postings, rescue := c.rescue }

/-- An offered notice consumed: it leaves the set, and where postings were taken during the read a fresh notice joins the
tail (R160, R161). -/
def consumeNotice (src : Source) (c : Carry) (set : List Notice) : List Notice :=
  let rest := set.filter fun n => n.source != src
  match set.find? fun n => n.source == src with
  | none => rest
  | some n => if c.postings = 0 then rest else rest ++ [freshNotice n c]

/-- The scanner told that the SCANNER notice was consumed: a PAUSED scanner becomes ARMED (R145). -/
def State.releaseScanner (s : State) : State :=
  match s.scan.state with
  | .paused c => s.setScan { s.scan with state := .armed c }
  | _ => s

/-- The delivered frame leaves the queue and is released (R71). -/
def State.takeDelivered (s : State) (h : Handle) : State :=
  let s := { s with store := { s.store with delivery := s.store.delivery.erase h } }
  s.release h

/-- The consumption of an offered item (R160). -/
def State.consume (s : State) (item : Item) (c : Carry) : State :=
  match item with
  | .reply => s.setLink { s.link with reply := none }
  | .notice src =>
    let s := s.setLink { s.link with notices := consumeNotice src c s.link.notices }
    if src = .scanner then s.releaseScanner else s
  | .frame h => s.takeDelivered h
  | .empty => s

/-- The last byte of the offered record is clocked out (R160). The rest of the transaction has no effect. -/
def State.completeRead (s : State) : State :=
  match s.link.phase with
  | .reading item _ c => (s.consume item c).setPhase .spent
  | _ => s

/-! ## Malformed records (R155) -/

/-- The FORMAT reply of a malformed record (R155, R157). -/
def State.formatReply (s : State) (kind : Option Byte) (len : Option Nat) (why : Malformed) (taken : Nat) : State :=
  s.setLink { s.link with reply := some { kind := kind, code := .format, body := .format len why taken } }

/-- A record judged malformed at write completion (R155). A record that is not malformed is no such event (log 1). -/
def State.malformed (s : State) (kind : Option Byte) (len : Option Half) (taken : Half) : State :=
  match malformedReason kind (len.map BitVec.toNat) taken.toNat with
  | some why => s.formatReply kind (len.map BitVec.toNat) why taken.toNat
  | none => s

/-! ## The commands -/

/-- SELECT_FALL (R151, R152). -/
def execSelectFall (s : State) : Host.Outcome State Fault Refusal := .next s.selectFall

/-- WRITE (R154). -/
def execWrite (s : State) : Host.Outcome State Fault Refusal := .next s.takeWrite

/-- READ (R159). -/
def execRead (s : State) : Host.Outcome State Fault Refusal := .next s.takeRead

/-- INVALID_TRANSACTION_KIND (R153). -/
def execInvalidTransactionKind (s : State) : Host.Outcome State Fault Refusal := .next s.takeInvalid

/-- MALFORMED_RECORD (R155). -/
def execMalformedRecord (kind : Option Byte) (len : Option Half) (taken : Half) (s : State) :
    Host.Outcome State Fault Refusal :=
  s.takeRequest fun s => s.malformed kind len taken

/-- READ_COMPLETION (R160). -/
def execReadCompletion (s : State) : Host.Outcome State Fault Refusal := .next s.completeRead

/-- READ_ENDED_EARLY (R162). -/
def execReadEndedEarly (s : State) : Host.Outcome State Fault Refusal := .next s.endReadEarly

end Sys2Proof.Machine
end

