-- ==== Sys2Proof/Machine/Air.lean ====
section
/-! DEFINITION. Air frames (R176): the frame check, the form of received frames (R79), and the bytes of sent frames. The
bytes are those that follow the start delimiter. -/

namespace Sys2Proof.Machine

open Sys2Proof

/-! ## The frame check -/

/-- One bit into the check register: shift left, and exclusive-or with 04C11DB7 if the bit shifted out differs from the
data bit (R176). -/
def checkBit (reg : BitVec 32) (bit : Bool) : BitVec 32 :=
  if Bool.xor reg.msb bit then (reg <<< 1) ^^^ 0x04C11DB7#32 else reg <<< 1

/-- One byte into the check register, most-significant bit first (R176). -/
def checkByte (reg : BitVec 32) (b : Byte) : BitVec 32 :=
  [7, 6, 5, 4, 3, 2, 1, 0].foldl (fun r i => checkBit r (b.getLsbD i)) reg

/-- The frame check of the covered bytes: preset FFFFFFFF, complemented at the end (R176). -/
def frameCheck (bytes : List Byte) : BitVec 32 := ~~~ (bytes.foldl checkByte 0xFFFFFFFF#32)

/-- The four bytes of a check, most-significant first. -/
def wordBytes (w : BitVec 32) : List Byte :=
  [w.extractLsb' 24 8, w.extractLsb' 16 8, w.extractLsb' 8 8, w.extractLsb' 0 8]

/-- Covered bytes followed by their check. -/
def withCheck (bytes : List Byte) : List Byte := bytes ++ wordBytes (frameCheck bytes)

/-! ## Frames -/

/-- The start delimiter before every air frame (R176). -/
def startDelimiter : List Byte := [0x7E, 0x81, 0x5A, 0xA5, 0x3C, 0xC3]

/-- A frame as it is sent: the start delimiter, then the bytes from the kind code through the check (R176). A frame received is
given from the kind code on, since the front end reports a reception only where it has found the delimiter. -/
def delimited (bytes : List Byte) : List Byte := startDelimiter ++ bytes

/-- The fields of a DATA frame, as the receiver takes them (R176). -/
structure DataFrame where
  tx : Half
  rx : Half
  seq : Seq
  dest : BitVec 12
  cls : BitVec 3
  hops : BitVec 4
  payload : List Byte
  deriving DecidableEq, Repr

/-- An air frame that passed its check and its form (R79, R176). -/
inductive AirFrame where
  | data (d : DataFrame)
  | hold (tx rx : Half)
  | ackset (tx rx : Half) (list : List Seq)
  | beacon (nodeId : Half) (epoch : Byte) (slot : Byte) (offset : Half)
  deriving DecidableEq, Repr

/-- DATA 3C01, HOLD 3C02, ACKSET 3C03, BEACON 3C04 (R176). -/
def kindData : Half := 0x3C01
def kindHold : Half := 0x3C02
def kindAckset : Half := 0x3C03
def kindBeacon : Half := 0x3C04

/-- A node id lies in 1..4094 (00, section 3). -/
def legalNodeId (n : Nat) : Bool := decide (1 ≤ n) && decide (n ≤ 4094)

/-- The bytes of a frame whose covered part is `n` bytes long, when that many bytes and the check arrived and the check
is right; a frame cut short fails here (R79, R176). Bytes after the check are no part of the frame (log 13). -/
def covered (n : Nat) (bytes : List Byte) : Option (List Byte) :=
  let c := bytes.take n
  if c.length = n ∧ (bytes.drop n).take 4 = wordBytes (frameCheck c) then some c else none

/-- The marked slots of an ACKSET, in slot order, each cut to its low 12 bits; bit i of the mask marks slot i (R176). -/
def markedSlots (mask : Byte) : Nat → List Half → List Seq
  | i, h :: rest => if mask.getLsbD i then h.extractLsb' 0 12 :: markedSlots mask (i + 1) rest
                    else markedSlots mask (i + 1) rest
  | _, [] => []

/-- A received DATA frame: it takes its length from the length field, and fails unless that lies in 1..1440 and the
destination is neither 0 nor 4095 (R79, R176). -/
def parseData (bytes : List Byte) : Option AirFrame :=
  match bytes with
  | _ :: _ :: t1 :: t0 :: r1 :: r0 :: q1 :: q0 :: d1 :: d0 :: cl :: hp :: l1 :: l0 :: _ =>
    let len := (halfOf l1 l0).toNat
    let dest := (halfOf d1 d0).extractLsb' 0 12
    if 1 ≤ len ∧ len ≤ 1440 ∧ dest ≠ 0#12 ∧ dest ≠ 4095#12 then
      (covered (14 + len) bytes).map fun c =>
        .data { tx := halfOf t1 t0, rx := halfOf r1 r0, seq := (halfOf q1 q0).extractLsb' 0 12, dest := dest,
                cls := cl.extractLsb' 0 3, hops := hp.extractLsb' 0 4, payload := c.drop 14 }
    else none
  | _ => none

/-- A received HOLD frame: of its fields only the ids are read (R176). -/
def parseHold (bytes : List Byte) : Option AirFrame :=
  match bytes with
  | _ :: _ :: t1 :: t0 :: r1 :: r0 :: _ => (covered 14 bytes).map fun _ => .hold (halfOf t1 t0) (halfOf r1 r0)
  | _ => none

/-- A received ACKSET; any mask value is well formed (R176). -/
def parseAckset (bytes : List Byte) : Option AirFrame :=
  match bytes with
  | _ :: _ :: t1 :: t0 :: r1 :: r0 :: mask :: slots =>
    (covered 23 bytes).map fun _ =>
      .ackset (halfOf t1 t0) (halfOf r1 r0) (markedSlots mask 0 (halvesOf (slots.take 16)))
  | _ => none

/-- A received BEACON; its node id must lie in 1..4094 (R79, R176). -/
def parseBeacon (bytes : List Byte) : Option AirFrame :=
  match bytes with
  | _ :: _ :: n1 :: n0 :: ep :: sl :: o1 :: o0 :: _ =>
    if legalNodeId (halfOf n1 n0).toNat then
      (covered 8 bytes).map fun _ => .beacon (halfOf n1 n0) ep sl (halfOf o1 o0)
    else none
  | _ => none

/-- The frame check and the form of R79: none where the frame fails. -/
def parseFrame (bytes : List Byte) : Option AirFrame :=
  match bytes with
  | k1 :: k0 :: _ =>
    if halfOf k1 k0 = kindData then parseData bytes
    else if halfOf k1 k0 = kindHold then parseHold bytes
    else if halfOf k1 k0 = kindAckset then parseAckset bytes
    else if halfOf k1 k0 = kindBeacon then parseBeacon bytes
    else none
  | _ => none

/-- The bytes of a DATA frame; the bits above each field are sent as 0 (R103, R176). -/
def dataBytes (d : DataFrame) : List Byte :=
  withCheck (halfBytes kindData ++ halfBytes d.tx ++ halfBytes d.rx ++ halfBytes (d.seq.setWidth 16)
    ++ halfBytes (d.dest.setWidth 16) ++ [d.cls.setWidth 8, d.hops.setWidth 8]
    ++ halfBytes (BitVec.ofNat 16 d.payload.length) ++ d.payload)

/-- The bytes of a HOLD frame (R102, R176). -/
def holdBytes (tx rx : Half) : List Byte :=
  withCheck (halfBytes kindHold ++ halfBytes tx ++ halfBytes rx ++ List.replicate 8 0)

/-- The slot mask that marks the first `j` slots (R176). -/
def ackMask (j : Nat) : Byte := BitVec.ofNat 8 (2 ^ j - 1)

/-- The bytes of an ACKSET with this list of at most 8 sequences (R91, R176). -/
def acksetBytes (tx rx : Half) (list : List Seq) : List Byte :=
  withCheck (halfBytes kindAckset ++ halfBytes tx ++ halfBytes rx ++ [ackMask list.length]
    ++ (list.flatMap fun q => halfBytes (q.setWidth 16)) ++ List.replicate (16 - 2 * list.length) 0)

/-- The bytes of a BEACON (R113, R176). -/
def beaconBytes (nodeId : Half) (epoch : Byte) (slot : Byte) (offset : Half) : List Byte :=
  withCheck (halfBytes kindBeacon ++ halfBytes nodeId ++ [epoch, slot] ++ halfBytes offset)

end Sys2Proof.Machine
end

