-- ==== Sys2Proof/Machine/Operands.lean ====
section
/-! DEFINITION. The fields of requests as carried, and what each names (R175): none where the field lies outside its range
or numbers no name of its set, for which the owner refuses RANGE. -/

namespace Sys2Proof.Machine

open Sys2Proof

/-- A number below `n`. -/
def below (n v : Nat) : Option (Fin n) := if h : v < n then some ⟨v, h⟩ else none

/-- A flag or option byte: 0 clear, 1 set, any other RANGE (R175). -/
def flagOf (b : Byte) : Option Bool :=
  match b.toNat with
  | 0 => some false
  | 1 => some true
  | _ => none

/-- A neighbour index 0..15. -/
def nbrOf (b : Byte) : Option NbrIdx := below 16 b.toNat

/-- A sector 0..5. -/
def sectorOf (b : Byte) : Option Sector := below 6 b.toNat

/-- An optional field of one byte whose absent value is FF (R175): outer none is out of range. -/
def optionalOf {α : Type} (f : Byte → Option α) (b : Byte) : Option (Option α) :=
  if b = 0xFF then some none else (f b).map some

/-- A path entry index 0..255, carried in two bytes. -/
def entryIdxOf (h : Half) : Option EntryIdx := below 256 h.toNat

/-- An ingress 0..16; 16 is local (R38). -/
def ingressOf (b : Byte) : Option Ingress :=
  if h : b.toNat < 16 then some (.nbr ⟨b.toNat, h⟩) else if b.toNat = 16 then some .host else none

/-- A key: destination 0..4095, class 0..7, ingress 0..16 (R47, R51). -/
def keyOf (c : CarriedKey) : Option Key :=
  if c.dest.toNat ≤ 4095 ∧ c.cls.toNat ≤ 7 then
    (ingressOf c.ing).map fun i => { dest := c.dest.setWidth 12, cls := c.cls.setWidth 3, ing := i }
  else none

/-- An action with its next hop: FORWARD 0, DELIVER 1, DISCARD 2. The next hop is read for FORWARD only (R51). -/
def actionOf (a hop : Byte) : Option Action :=
  match a.toNat with
  | 0 => (nbrOf hop).map .forward
  | 1 => some .deliver
  | 2 => some .discard
  | _ => none

/-- An entry state by its number: FREE 0 (inner none), LIVE 1, PARKED 2, BARRED 3 (R175). -/
def entryStateOf (b : Byte) : Option (Option RouteState) :=
  match b.toNat with
  | 0 => some none
  | 1 => some (some .live)
  | 2 => some (some .parked)
  | 3 => some (some .barred)
  | _ => none

/-- What an ENTRY WRITE or ENTRY PLACE asks for, once its fields are in range (R51). -/
structure WantedEntry where
  key : Key
  action : Action
  barred : Bool
  deriving DecidableEq, Repr

/-- The RANGE check of R51 on key, action, next hop and requested state; a request for PARKED or FREE fails it. -/
def wantedOf (e : CarriedEntry) : Option WantedEntry :=
  match keyOf e.key, actionOf e.action e.hop, entryStateOf e.state with
  | some k, some a, some (some .live) => some { key := k, action := a, barred := false }
  | some k, some a, some (some .barred) => some { key := k, action := a, barred := true }
  | _, _, _ => none

/-- A target of ENTRY STATE: an index, or LAST (FFFE) (R55, R175). -/
inductive Target where
  | index (i : EntryIdx) | last
  deriving DecidableEq, Repr

/-- The target that a field names; none for an index outside 0..255. -/
def targetOf (h : Half) : Option Target :=
  if h = 0xFFFE then some .last else (entryIdxOf h).map .index

/-- A target state of ENTRY STATE: LIVE, BARRED or FREE; PARKED cannot be requested (R55). -/
inductive TargetState where
  | live | barred | free
  deriving DecidableEq, Repr

/-- The target state that a byte names. -/
def targetStateOf (b : Byte) : Option TargetState :=
  match b.toNat with
  | 0 => some .free
  | 1 => some .live
  | 3 => some .barred
  | _ => none

/-- A scope of TABLE CLEAR: ALL (outer some none), or LIVE, PARKED or BARRED; FREE is refused (R57, R175). -/
def scopeOf (b : Byte) : Option (Option RouteState) :=
  match b.toNat with
  | 1 => some (some .live)
  | 2 => some (some .parked)
  | 3 => some (some .barred)
  | 4 => some none
  | _ => none

/-- A mask profile: A 0, B 1 (R45). -/
def profileOf (b : Byte) : Option Profile :=
  match b.toNat with
  | 0 => some .a
  | 1 => some .b
  | _ => none

/-- A mask profile from its fields; an ignore set that names a position above the twelve fails (R45). -/
def maskOf (ignore : Half) (cmpClass cmpIngress : Byte) : Option Mask :=
  match flagOf cmpClass, flagOf cmpIngress with
  | some c, some i =>
    if ignore.toNat ≤ 4095 then some { ignore := ignore.setWidth 12, cmpClass := c, cmpIngress := i } else none
  | _, _ => none

/-- A scan mode: ONCE 0, ONCE-LOCKED 1, REPEAT 2, STEP 3 (R135, R175). -/
def modeOf (b : Byte) : Option ScanMode :=
  match b.toNat with
  | 0 => some .once
  | 1 => some .onceLocked
  | 2 => some .repeat
  | 3 => some .step
  | _ => none

/-- The scanner settings that SCAN SET carries (R147). -/
def scanSettingsOf (mode start stop boundary loss : Byte) : Option ScanSettings :=
  match modeOf mode, sectorOf start, sectorOf stop, flagOf boundary, flagOf loss with
  | some m, some a, some b, some x, some y => some { mode := m, start := a, stop := b, boundary := x, loss := y }
  | _, _, _, _, _ => none

/-- The kind and argument of a slot code; none for an illegal code (R120). -/
def slotKindOf (c : Half) : Option SlotKind :=
  let arg := c.toNat % 256
  match c.toNat / 256 with
  | 0 => if arg = 0 then some .idle else none
  | 1 => (below 16 arg).map .tx
  | 2 => (below 16 arg).map .rx
  | 3 => (below 6 arg).map .beacon
  | 4 => if arg = 0 then some .scan else none
  | _ => none

/-- The hop count taken: 0 is taken as 8, above 15 as 15 (R74). -/
def hopsTaken (b : Byte) : BitVec 4 :=
  if b.toNat = 0 then 8 else if 15 < b.toNat then 15 else b.setWidth 4

/-- The tier cap taken, and whether it was clamped: absent (FF) and above 3 are taken as 3 (R29). -/
def capTaken (b : Byte) : Fin 4 × Bool :=
  if b = 0xFF then (3, false)
  else match below 4 b.toNat with
    | some c => (c, false)
    | none => (3, true)

end Sys2Proof.Machine
end

