-- ==== Sys2Proof/Machine/Receive.lean ====
section
/-! DEFINITION. The receive engine (05): opening an RX slot, the receive window, arrivals, disposal, the ACKSET, the slot's
observation. -/

namespace Sys2Proof.Machine

open Sys2Proof

/-- The start of an RX slot for `n`: a receive context and the front end listening on `n`'s sector if `n` is UP, WEAK or
HELD; otherwise the slot is idle (R78). Those states always have a sector (R16; log 23). -/
def State.openRx (s : State) (n : NbrIdx) : State :=
  let r := s.nbr n
  if r.state.heard then
    let sec := r.sector.getD 0
    s.setRadio { s.radio with rx := some { nbr := n, sector := sec, firstCode := none, heard := false, acks := [] },
                              rxon := true, sector := some sec }
  else s

/-! ## The receive window (R82, R83, R86) -/

/-- The classes of R83; `fresh` is new or ahead. -/
inductive WindowClass where
  | duplicate | stale | fresh
  deriving DecidableEq, Repr

/-- How far `q` lies behind `h`, modulo 4096 (R83). -/
def behind (h q : Seq) : Nat := (h - q).toNat

/-- The class of sequence `q` against a window (R83). -/
def Nbr.classify (r : Nbr) (q : Seq) : WindowClass :=
  match r.high with
  | none => .fresh
  | some h =>
    if behind h q ≤ 31 then (if r.seen.contains q then .duplicate else .fresh)
    else if behind h q ≤ 2048 then .stale
    else .fresh

/-- The members of `set` within the 32 sequences that end at `h`, ascending from the oldest (R82). -/
def windowOf (h : Seq) (set : List Seq) : List Seq :=
  ((List.range 32).reverse.map fun k => h - BitVec.ofNat 12 k).filter fun q => set.contains q

/-- The window after `q`, classed new or ahead, is accepted (R86, steps 1 and 2). -/
def Nbr.accept (r : Nbr) (q : Seq) : Nbr :=
  match r.high with
  | none => { r with high := some q, seen := [q] }
  | some h =>
    let h := if behind h q ≤ 31 then h else q
    { r with high := some h, seen := windowOf h (q :: r.seen) }

/-! ## Arrivals -/

/-- The check-failure counter raised (R79). -/
def State.countCheckFail (s : State) : State := { s with store := { s.store with checkFail := bump 65535 s.store.checkFail } }

/-- The foreign-frame counter raised (R80). -/
def State.countForeign (s : State) : State := { s with store := { s.store with foreign := bump 65535 s.store.foreign } }

/-- A 16-bit id field equals a node id, which may be absent (R80, R104, R176). -/
def idIs (id : Option Nat) (field : Half) : Bool := id == some field.toNat

/-- The part's own node id, if it has an identity (R167). -/
def State.ownNodeId (s : State) : Option Nat := s.part.identity.map (·.nodeId)

/-- The counters of neighbour `n` changed by `f` (R33). -/
def State.modCounters (s : State) (n : NbrIdx) (f : NbrCounters → NbrCounters) : State :=
  s.modNbr n fun r => { r with counters := f r.counters }

/-- A sequence joins the ACK list unless it is on it or the list holds 8 (R90). -/
def addAck (acks : List Seq) (q : Seq) : List Seq :=
  if acks.contains q || decide (8 ≤ acks.length) then acks else acks ++ [q]

/-- The receive context with `q` acknowledged (R90). -/
def State.acknowledge (s : State) (ctx : RxCtx) (q : Seq) : State :=
  s.setRadio { s.radio with rx := some { ctx with acks := addAck ctx.acks q } }

/-- The disposal of an accepted frame from `n`, which takes record `h` if it is stored (R87 to R89). -/
def State.dispose (s : State) (n : NbrIdx) (h : Handle) (d : DataFrame) : State :=
  let store := fun (s : State) (hops : BitVec 4) => s.allocate h (.nbr n) d.dest d.cls hops d.payload
  if s.ownNodeId = some d.dest.toNat then (store s d.hops).appendDelivery h false
  else
    let asked := s.frameLookup { dest := d.dest, cls := d.cls, ing := .nbr n }
    let s := asked.2
    match asked.1 with
    | none => (store s d.hops).appendDelivery h true
    | some (_, r) =>
      match r.action with
      | .discard => s.countDiscard .action
      | .deliver => (store s d.hops).appendDelivery h false
      | .forward m =>
        if m = n then s.countDiscard .reflect
        else if d.hops.toNat ≤ 1 then s.countDiscard .hops
        else if s.queueHasRoom m then (store s (d.hops - 1)).appendQueue m h
        else s.countDiscard .queue

/-- A DATA frame from `n` in UP or WEAK, judged against the window (R83 to R86). -/
def State.judgeData (s : State) (ctx : RxCtx) (d : DataFrame) : State :=
  let n := ctx.nbr
  match (s.nbr n).classify d.seq with
  | .duplicate => (s.acknowledge ctx d.seq).modCounters n fun c => { c with duplicates := bump 65535 c.duplicates }
  | .stale => (s.acknowledge ctx d.seq).modCounters n fun c => { c with stale := bump 65535 c.stale }
  | .fresh =>
    match s.store.allocHandle d.payload.length with
    | none => s.modCounters n fun c => { c with refused := bump 65535 c.refused }
    | some h =>
      let s := s.modNbr n fun r => r.accept d.seq
      let s := s.acknowledge ctx d.seq
      let s := s.modCounters n fun c => { c with received := bump 65535 c.received }
      s.dispose n h d

/-- The receive context at a valid frame with this energy code: heard, and the first code recorded (R81). -/
def RxCtx.hear (ctx : RxCtx) (code : Code) : RxCtx :=
  { ctx with heard := true, firstCode := match ctx.firstCode with | none => some code | some c => some c }

/-- A valid DATA frame, handled by `n`'s state (R81). A neighbour enrolled anew at `n` in this slot is SEEKING: nothing
further (log 12). -/
def State.validData (s : State) (ctx : RxCtx) (d : DataFrame) : State :=
  match (s.nbr ctx.nbr).state with
  | .held => s.modCounters ctx.nbr fun c => { c with refused := bump 65535 c.refused }
  | .up | .weak => s.judgeData ctx d
  | .vacant | .seeking | .lost => s

/-- A frame that passed its check and form, in an open RX slot (R80, R81). -/
def State.soundFrame (s : State) (ctx : RxCtx) (f : AirFrame) (code : Code) : State :=
  let fromN := fun (tx rx : Half) => idIs s.ownNodeId rx && idIs (s.nbr ctx.nbr).nodeId tx
  let ctx' := ctx.hear code
  let heard := s.setRadio { s.radio with rx := some ctx' }
  match f with
  | .hold tx rx => if fromN tx rx then heard else s.countForeign
  | .data d => if fromN d.tx d.rx then heard.validData ctx' d else s.countForeign
  | .ackset _ _ _ => s.countForeign
  | .beacon _ _ _ _ => s.countForeign

/-- A frame ends in an RX slot. Only a frame that ends in the body of a slot with a receive context is received (R78). -/
def State.rxArrival (s : State) (bytes : List Byte) (code : Code) : State :=
  match s.radio.rx, s.sched.openSlot with
  | some ctx, some o =>
    if o.part = .body then
      match parseFrame bytes with
      | none => s.countCheckFail
      | some f => s.soundFrame ctx f code
    else s
  | _, _ => s

/-! ## The tail and the slot end -/

/-- The tail of an RX slot begins: listening ends, and an ACKSET is sent at tier 0 if a valid frame was heard, `n` is not VACANT and
no hold is set (R9, R91). DESIGN CHOICE (log 33): the state is judged where the tail begins, so a neighbour that was retired and
enrolled anew within the slot, a case that R91 leaves open, gets the ACKSET. -/
def State.rxTail (s : State) (ctx : RxCtx) : State :=
  let r := s.nbr ctx.nbr
  if ctx.heard ∧ r.state ≠ .vacant ∧ s.sched.holds.any = false then
    let air : OnAir := { kind := .ackset, sector := ctx.sector, tier := 0,
                         frames := [delimited (acksetBytes s.ownId r.idField ctx.acks)] }
    s.setRadio { s.radio with rxon := false, txon := true, onAir := some air, sector := some ctx.sector }
  else s.setRadio { s.radio with rxon := false }

/-- The end of an RX slot: a sample from the first code and the floor of the context's sector, or a miss (R92). -/
def State.rxEnd (s : State) (ctx : RxCtx) : State :=
  s.observe ctx.nbr (ctx.firstCode.map fun c => sampleOf c (s.mon.floors.look ctx.sector))

end Sys2Proof.Machine
end

