-- ==== Sys2Proof/Machine/FrameRequests.lean ====
section
/-! DEFINITION. FRAME SEND (R74, R75) and COUNTERS (R73). -/

namespace Sys2Proof.Machine

open Sys2Proof

/-- The answer to a frame that was not queued: the hop count taken, and the winner's index and action if there was one (R75). -/
def State.notSent (s : State) (code : ResultCode) (hops : BitVec 4) (winner : Option (EntryIdx × Route)) : State :=
  s.reply Kind.frameSend code (.notSent hops (winner.map fun w => (w.1, w.2.action)))

/-- A frame from the host that passed the checks of R74: one lookup with ingress 16, and its outcome (R75). -/
def State.sendFrame (s : State) (dest : BitVec 12) (cls : BitVec 3) (hops : BitVec 4) (payload : List Byte) : State :=
  let asked := s.frameLookup { dest := dest, cls := cls, ing := .host }
  let s := asked.2
  match asked.1 with
  | none => s.notSent .noroute hops none
  | some (i, r) =>
    match r.action with
    | .discard => (s.countDiscard .action).notSent .discarded hops (some (i, r))
    | .deliver => s.notSent .local hops (some (i, r))
    | .forward m =>
      if s.queueHasRoom m then
        match s.store.allocHandle payload.length with
        | none => s.notSent .nobuf hops (some (i, r))
        | some h =>
          ((s.allocate h .host dest cls hops payload).appendQueue m h).reply Kind.frameSend .ok
            (.sent h m (s.nbr m).txSeq hops i)
      else s.notSent .queue hops (some (i, r))

/-- FRAME SEND at its owner: the checks of R74 in order, then R75. A payload outside 1..1440 bytes does not match the kind
and is answered FORMAT, reason LENGTH (R74, R155; log 28). -/
def State.frameSend (s : State) (dest : Half) (cls hops : Byte) (payload : List Byte) : State :=
  if payload.length = 0 ∨ 1440 < payload.length then
    let len := 4 + payload.length
    s.formatReply (some Kind.frameSend) (some len) .length (if maxBody < len then 0 else len)
  else if legalNodeId dest.toNat && decide (cls.toNat ≤ 7) then
    match s.part.identity with
    | none => s.notSent .state (hopsTaken hops) none
    | some i =>
      if dest.toNat = i.nodeId then s.notSent .local (hopsTaken hops) none
      else s.sendFrame (dest.setWidth 12) (cls.setWidth 3) (hopsTaken hops) payload
  else s.notSent .range (hopsTaken hops) none

/-- The ten counters at 0 (R73). -/
def State.clearCounters (s : State) : State :=
  { s with store := { s.store with discards := ⟨0, 0, 0, 0, 0, 0, 0, 0⟩, checkFail := 0, foreign := 0 } }

/-- COUNTERS at its owner (R73). -/
def State.countersRequest (s : State) (clear : Byte) : State :=
  match flagOf clear with
  | none => s.reply Kind.counters .range .empty
  | some c =>
    (if c then s.clearCounters else s).reply Kind.counters .ok
      (.counters s.store.discards s.store.checkFail s.store.foreign)

/-- FRAME_SEND (R74, R75). -/
def execFrameSend (dest : Half) (cls hops : Byte) (payload : List Byte) (s : State) : Host.Outcome State Fault Refusal :=
  s.takeRequest fun s => s.frameSend dest cls hops payload

/-- COUNTERS (R73). -/
def execCounters (clear : Byte) (s : State) : Host.Outcome State Fault Refusal :=
  s.takeRequest fun s => s.countersRequest clear

end Sys2Proof.Machine
end

