-- ==== Sys2Proof/Machine/Align.lean ====
section
/-! DEFINITION. Time alignment (07, section 7.8): the sync neighbour, measurements, DRIFT, the correction of slot 31. -/

namespace Sys2Proof.Machine

open Sys2Proof

/-- The longest absolute difference that leaves DRIFT absent, in µs (R119, R131). -/
def driftLimit : Nat := 40

/-- The largest correction, in µs (R132). -/
def maxCorrection : Int := 25

/-- A difference normalised into −S/2 + 1 .. S/2, with S = 32·L (R131). -/
def normaliseD (slotLen : Nat) (raw : Int) : Int :=
  let half : Int := 16 * slotLen
  (raw + half - 1) % (2 * half) - half + 1

/-- The difference d of a beacon: the local superframe time less the stated time, normalised (R131). -/
def alignmentD (slotLen : Nat) (b : HeardBeacon) : Int :=
  normaliseD slotLen ((b.localTime : Int) - ((b.slot.toNat * slotLen + b.offset.toNat : Nat) : Int))

/-- DRIFT set in the holds, or removed. -/
def Scheduler.withDrift (c : Scheduler) (f : Bool) : Scheduler := { c with holds := { c.holds with drift := f } }

/-- DRIFT judged against a measurement; a change posts the SCHEDULER notice (R131, R133). -/
def State.judgeDrift (s : State) (d : Int) : State :=
  if driftLimit < d.natAbs ∧ s.sched.holds.drift = false then
    (s.setSched (s.sched.withDrift true)).postSched .driftSet (some d)
  else if d.natAbs ≤ driftLimit ∧ s.sched.holds.drift = true then
    (s.setSched (s.sched.withDrift false)).postSched .driftCleared (some d)
  else s

/-- A beacon taken by the scheduler: an alignment measurement if it is from the sync neighbour's node id (R131). -/
def State.measure (s : State) (b : HeardBeacon) : State :=
  match s.sched.sync with
  | none => s
  | some k =>
    if (s.nbr k).nodeId = some b.nodeId then
      let d := alignmentD s.sched.slotLen b
      (s.setSched { s.sched with pendingD := some d, lastD := some d }).judgeDrift d
    else s

/-- The sync neighbour set: the alignment state is cleared, and the SCHEDULER notice posted if DRIFT was present (R130, R133). -/
def State.setSync (s : State) (k : Option NbrIdx) : State :=
  let drifted := s.sched.holds.drift
  let s := s.setSched { s.sched.withDrift false with sync := k, pendingD := none, lastD := none }
  if drifted then s.postSched .syncCleared none else s

/-- The correction c of slot 31: half the pending measurement, truncated toward zero and limited to −25..25 (R132). -/
def correctionOf (pending : Option Int) : Int :=
  match pending with
  | none => 0
  | some d => clampInt (-maxCorrection) maxCorrection (d.tdiv 2)

end Sys2Proof.Machine
end

