-- ==== Sys2Proof/Machine/Neighbours.lean ====
section
/-! DEFINITION. The neighbour requests (02, section 2.6): ENROL, RETIRE, CONFIRM, QUERY. -/

namespace Sys2Proof.Machine

open Sys2Proof

/-! ## NEIGHBOUR ENROL (R29) -/

/-- The record that an enrolment makes: SEEKING, everything else as in a VACANT record but node id, hint and cap (R29). -/
def Nbr.enrolled (nodeId : Nat) (hint : Option Sector) (cap : Fin 4) : Nbr :=
  { Nbr.vacant with state := .seeking, nodeId := some nodeId, sector := hint, cap := cap }

/-- The STATE check of R29: identity present, record VACANT, node id neither the part's own nor another record's. -/
def State.mayEnrol (s : State) (n : NbrIdx) (nodeId : Nat) : Bool :=
  (match s.part.identity with | none => false | some i => i.nodeId != nodeId)
    && (s.nbr n).state == .vacant && (s.nbrWithId nodeId).isNone

/-- NEIGHBOUR ENROL at its owner (R29). -/
def State.enrol (s : State) (index : Byte) (nodeId : Half) (hint cap : Byte) : State :=
  match nbrOf index, optionalOf sectorOf hint with
  | some n, some sec =>
    if legalNodeId nodeId.toNat then
      if s.mayEnrol n nodeId.toNat then
        let s := (s.setNbr n (Nbr.enrolled nodeId.toNat sec (capTaken cap).1)).setQueue n []
        (s.postLink n .enrol none).reply Kind.neighbourEnrol .ok (.enrolled n (capTaken cap).1 (capTaken cap).2)
      else s.reply Kind.neighbourEnrol .state .empty
    else s.reply Kind.neighbourEnrol .range .empty
  | _, _ => s.reply Kind.neighbourEnrol .range .empty

/-! ## NEIGHBOUR RETIRE (R30) -/

/-- The entry's next hop is `n`, whatever its state (R60). -/
def hopsTo (n : NbrIdx) : Entry → Bool
  | none => false
  | some r => decide (r.action = .forward n)

/-- Every frame of `n`'s queue discarded RETIRED, head to tail, in flight or not (R69). -/
def State.discardQueue (s : State) (n : NbrIdx) : State :=
  ((s.queue n).foldl (fun s h => s.discard .retired h) s).setQueue n []

/-- A TX slot for `n` that is open: in BURST it stops transmitting at once, and the context names no neighbour and no frame
(R109). -/
def Radio.retire (r : Radio) (n : NbrIdx) : Radio :=
  match r.tx with
  | none => r
  | some ctx =>
    if ctx.nbr = some n then
      let named : TxCtx := { ctx with nbr := none, content := .nothing, ackset := none }
      match ctx.phase with
      | .burst => { r with tx := some named, txon := false, onAir := none }
      | .listen => { r with tx := some named }
    else r

/-- The retire of neighbour `n`, in the order of R30. -/
def State.retire (s : State) (n : NbrIdx) : State :=
  let id := (s.nbr n).nodeId
  let s := s.freeEntries (hopsTo n)
  let s := (s.discardQueue n).setRadio (s.radio.retire n)
  let s := if s.sched.sync = some n then s.setSync none else s
  let s := s.setNbr n Nbr.vacant
  s.post (.link n) (.link n id .vacant .retire none none none) none

/-- NEIGHBOUR RETIRE at its owner (R30). -/
def State.retireRequest (s : State) (index : Byte) : State :=
  match nbrOf index with
  | none => s.reply Kind.neighbourRetire .range .empty
  | some n =>
    if (s.nbr n).state = .vacant then s.reply Kind.neighbourRetire .state .empty
    else
      (s.retire n).reply Kind.neighbourRetire .ok
        (.retired (s.path.entries.count (hopsTo n)) (s.queue n).length)

/-! ## NEIGHBOUR CONFIRM (R31) -/

/-- NEIGHBOUR CONFIRM at its owner (R31). -/
def State.confirm (s : State) (index : Byte) : State :=
  match nbrOf index with
  | none => s.reply Kind.neighbourConfirm .range .empty
  | some n =>
    if (s.nbr n).state = .held then
      ((s.modNbr n fun r => { r.clearWindow with reseed := true }).changeState n .weak .confirm).reply
        Kind.neighbourConfirm .ok .empty
    else s.reply Kind.neighbourConfirm .state (.linkState (s.nbr n).state)

/-! ## NEIGHBOUR QUERY (R32) -/

/-- What a query of `n` reports (R32). -/
def State.report (s : State) (n : NbrIdx) : NbrReport :=
  let r := s.nbr n
  { state := r.state, nodeId := r.nodeId, sector := r.sector, epoch := r.epoch, acc := r.acc,
    margin := r.acc.map marginOf, reseed := r.reseed, tier := tierOf s.mon.settings r.cap (r.acc.map marginOf),
    cap := r.cap, fade := r.fade, good := r.good, miss := r.miss, margins := r.margins, txSeq := r.txSeq,
    high := r.high, seen := r.seen, age := r.age, queueLen := (s.queue n).length, counters := r.counters }

/-- The seven counters at 0 (R33). -/
def NbrCounters.zero : NbrCounters := ⟨0, 0, 0, 0, 0, 0, 0⟩

/-- NEIGHBOUR QUERY at its owner (R32). -/
def State.query (s : State) (index clear : Byte) : State :=
  match nbrOf index, flagOf clear with
  | some n, some c =>
    let s' := if c then s.modNbr n fun r => { r with counters := NbrCounters.zero } else s
    s'.reply Kind.neighbourQuery .ok (.neighbour (s.report n))
  | _, _ => s.reply Kind.neighbourQuery .range .empty

/-! ## The commands -/

/-- NEIGHBOUR_ENROL (R29). -/
def execNeighbourEnrol (index : Byte) (nodeId : Half) (hint cap : Byte) (s : State) : Host.Outcome State Fault Refusal :=
  s.takeRequest fun s => s.enrol index nodeId hint cap

/-- NEIGHBOUR_RETIRE (R30). -/
def execNeighbourRetire (index : Byte) (s : State) : Host.Outcome State Fault Refusal :=
  s.takeRequest fun s => s.retireRequest index

/-- NEIGHBOUR_CONFIRM (R31). -/
def execNeighbourConfirm (index : Byte) (s : State) : Host.Outcome State Fault Refusal :=
  s.takeRequest fun s => s.confirm index

/-- NEIGHBOUR_QUERY (R32). -/
def execNeighbourQuery (index clear : Byte) (s : State) : Host.Outcome State Fault Refusal :=
  s.takeRequest fun s => s.query index clear

end Sys2Proof.Machine
end

