-- ==== Sys2Proof/Machine/PathRequests.lean ====
section
/-! DEFINITION. The path table requests (03): LOOKUP, FIND, the entry requests, TABLE CLEAR, MASK SET, MASK SELECT. -/

namespace Sys2Proof.Machine

open Sys2Proof

/-! ## Searches (R47 to R50) -/

/-- The state with the last-match index set (R50). -/
def State.setLast (s : State) (i : Option EntryIdx) : State := s.setPath { s.path with lastMatch := i }

/-- A search over the entries: the lowest candidate with the multiple-match flag and the entry, or NOMATCH; it sets the
last-match index either way and counts no hit (R47 to R50). -/
def State.search (s : State) (kind : Byte) (p : Entry → Bool) : State :=
  match s.path.entries.lowest p with
  | some i => (s.setLast (some i)).reply kind .ok (.found i (decide (2 ≤ s.path.entries.count p)) (s.entry i))
  | none => (s.setLast none).reply kind .nomatch .empty

/-- LOOKUP at its owner (R47). -/
def State.lookupRequest (s : State) (key : CarriedKey) : State :=
  match keyOf key with
  | none => s.reply Kind.lookup .range .empty
  | some q => s.search Kind.lookup (entryMatches s.path.mask .live (some q))

/-- FIND FREE at its owner: next-free; the key is neither checked nor used (R49). -/
def State.findFreeRequest (s : State) (anyKey : Byte) : State :=
  match flagOf anyKey with
  | none => s.reply Kind.find .range .empty
  | some _ => s.search Kind.find Option.isNone

/-- FIND at its owner (R48). A state condition of FREE is FIND FREE (R49; log 24). -/
def State.findRequest (s : State) (state anyKey : Byte) (key : CarriedKey) : State :=
  match entryStateOf state, flagOf anyKey with
  | some none, _ => s.findFreeRequest anyKey
  | some (some st), some true => s.search Kind.find (entryMatches s.path.mask st none)
  | some (some st), some false =>
    match keyOf key with
    | some q => s.search Kind.find (entryMatches s.path.mask st (some q))
    | none => s.reply Kind.find .range .empty
  | _, _ => s.reply Kind.find .range .empty

/-! ## Writing entries (R51 to R54) -/

/-- The next hop neighbour of an action is not VACANT (R51). -/
def State.hopUsable (s : State) : Action → Bool
  | .forward n => (s.nbr n).state != .vacant
  | _ => true

/-- The state a LIVE request resolves to: PARKED for FORWARD to a neighbour not UP (R52, R56). -/
def State.liveState (s : State) : Action → RouteState
  | .forward n => if (s.nbr n).state = .up then .live else .parked
  | _ => .live

/-- The route that a write stores (R52). -/
def State.routeFor (s : State) (w : WantedEntry) : Route :=
  { state := if w.barred then .barred else s.liveState w.action, key := w.key, action := w.action, hits := 0 }

/-- PARKED where the route is stored PARKED, else OK (R52, R56). -/
def storedCode (r : Route) : ResultCode := if r.state = .parked then .parked else .ok

/-- A route stored at an index in one update, and the reply that carries it (R52, R53). -/
def State.storeRoute (s : State) (kind : Byte) (i : EntryIdx) (w : WantedEntry) : State :=
  (s.setEntry i (some (s.routeFor w))).reply kind (storedCode (s.routeFor w))
    (.entryAt i (s.entry i) (some (s.routeFor w)))

/-- ENTRY WRITE at its owner (R51, R52). -/
def State.entryWrite (s : State) (index : Half) (e : CarriedEntry) : State :=
  match entryIdxOf index with
  | none => s.reply Kind.entryWrite .range .empty
  | some i =>
    match wantedOf e with
    | none => s.reply Kind.entryWrite .range (.entry (s.entry i))
    | some w =>
      if s.hopUsable w.action then s.storeRoute Kind.entryWrite i w
      else s.reply Kind.entryWrite .state (.entry (s.entry i))

/-- ENTRY PLACE at its owner (R53). -/
def State.entryPlace (s : State) (e : CarriedEntry) : State :=
  match wantedOf e with
  | none => s.reply Kind.entryPlace .range .empty
  | some w =>
    if s.hopUsable w.action then
      match s.path.nextFree with
      | none => s.reply Kind.entryPlace .full .empty
      | some i => s.storeRoute Kind.entryPlace i w
    else s.reply Kind.entryPlace .state .empty

/-- ENTRY READ at its owner (R54). -/
def State.entryReadRequest (s : State) (index : Half) : State :=
  match entryIdxOf index with
  | none => s.reply Kind.entryRead .range .empty
  | some i => s.reply Kind.entryRead .ok (.entry (s.entry i))

/-! ## Changing entry states (R55 to R57) -/

/-- The index that a target names; none for LAST while the last-match index is none (R55). -/
def State.targetIndex (s : State) : Target → Option EntryIdx
  | .index i => some i
  | .last => s.path.lastMatch

/-- The route that target LIVE makes of a route: LIVE and PARKED stay, BARRED resolves (R56). -/
def State.unbar (s : State) (r : Route) : Route :=
  if r.state = .barred then { r with state := s.liveState r.action } else r

/-- An ENTRY STATE that passed its RANGE check on the target, on the entry at `i` (R55, R56). The reply reports the entry as it
was and as it now stands (R61; log 29). -/
def State.entryStateAt (s : State) (i : EntryIdx) (target : TargetState) : State :=
  match target, s.entry i with
  | .free, _ => (s.setEntry i none).reply Kind.entryState .ok (.entryAt i (s.entry i) none)
  | _, none => s.reply Kind.entryState .state (.entry none)
  | .live, some r =>
    (s.setEntry i (some (s.unbar r))).reply Kind.entryState (storedCode (s.unbar r))
      (.entryAt i (some r) (some (s.unbar r)))
  | .barred, some r =>
    (s.setEntry i (some { r with state := .barred })).reply Kind.entryState .ok
      (.entryAt i (some r) (some { r with state := .barred }))

/-- ENTRY STATE at its owner (R55). DESIGN CHOICE (log 30): for LAST without a last-match index and an illegal target state the
RANGE refusal has no entry to carry, and its body is empty. -/
def State.entryStateRequest (s : State) (target : Half) (state : Byte) : State :=
  match targetOf target with
  | none => s.reply Kind.entryState .range .empty
  | some t =>
    match targetStateOf state, s.targetIndex t with
    | none, none => s.reply Kind.entryState .range .empty
    | none, some i => s.reply Kind.entryState .range (.entry (s.entry i))
    | some _, none => s.reply Kind.entryState .nomatch .empty
    | some st, some i => s.entryStateAt i st

/-- The entries that a scope of TABLE CLEAR frees: every entry that is not FREE, or those in one state (R57). -/
def inScope (scope : Option RouteState) : Entry → Bool
  | none => false
  | some r => match scope with | none => true | some st => r.state == st

/-- The last-match index after a clear: none for scope ALL, else as for any freeing (R57). -/
def State.clearTable (s : State) (scope : Option RouteState) : State :=
  let s := s.freeEntries (inScope scope)
  match scope with
  | none => s.setLast none
  | some _ => s

/-- TABLE CLEAR at its owner (R57). -/
def State.tableClear (s : State) (scope : Byte) : State :=
  match scopeOf scope with
  | none => s.reply Kind.tableClear .range .empty
  | some sc => (s.clearTable sc).reply Kind.tableClear .ok (.freed (s.path.entries.count (inScope sc)))

/-! ## Mask profiles (R45, R46) -/

/-- Both profiles and the active one, as a reply carries them (R45, R46). -/
def PathTable.maskBody (t : PathTable) : ReplyBody := .masks t.maskA t.maskB t.active

/-- A profile replaced in one change (R45). -/
def PathTable.setMask (t : PathTable) (p : Profile) (m : Mask) : PathTable :=
  match p with
  | .a => { t with maskA := m }
  | .b => { t with maskB := m }

/-- MASK SET at its owner (R45). -/
def State.maskSet (s : State) (profile : Byte) (ignore : Half) (cmpClass cmpIngress : Byte) : State :=
  match profileOf profile, maskOf ignore cmpClass cmpIngress with
  | some p, some m => (s.setPath (s.path.setMask p m)).reply Kind.maskSet .ok (s.path.setMask p m).maskBody
  | _, _ => s.reply Kind.maskSet .range s.path.maskBody

/-- MASK SELECT at its owner (R46). -/
def State.maskSelect (s : State) (profile : Byte) : State :=
  match profileOf profile with
  | some p => (s.setPath { s.path with active := p }).reply Kind.maskSelect .ok (.masks s.path.maskA s.path.maskB p)
  | none => s.reply Kind.maskSelect .range .empty

/-! ## The commands -/

/-- LOOKUP (R47). -/
def execLookup (key : CarriedKey) (s : State) : Host.Outcome State Fault Refusal :=
  s.takeRequest fun s => s.lookupRequest key

/-- FIND (R48). -/
def execFind (state anyKey : Byte) (key : CarriedKey) (s : State) : Host.Outcome State Fault Refusal :=
  s.takeRequest fun s => s.findRequest state anyKey key

/-- FIND_FREE (R49). The key is taken and unused. -/
def execFindFree (anyKey : Byte) (_key : CarriedKey) (s : State) : Host.Outcome State Fault Refusal :=
  s.takeRequest fun s => s.findFreeRequest anyKey

/-- ENTRY_WRITE (R51, R52). -/
def execEntryWrite (index : Half) (e : CarriedEntry) (s : State) : Host.Outcome State Fault Refusal :=
  s.takeRequest fun s => s.entryWrite index e

/-- ENTRY_PLACE (R53). -/
def execEntryPlace (e : CarriedEntry) (s : State) : Host.Outcome State Fault Refusal :=
  s.takeRequest fun s => s.entryPlace e

/-- ENTRY_READ (R54). -/
def execEntryRead (index : Half) (s : State) : Host.Outcome State Fault Refusal :=
  s.takeRequest fun s => s.entryReadRequest index

/-- ENTRY_STATE (R55, R56). -/
def execEntryState (target : Half) (state : Byte) (s : State) : Host.Outcome State Fault Refusal :=
  s.takeRequest fun s => s.entryStateRequest target state

/-- TABLE_CLEAR (R57). -/
def execTableClear (scope : Byte) (s : State) : Host.Outcome State Fault Refusal :=
  s.takeRequest fun s => s.tableClear scope

/-- MASK_SET (R45). -/
def execMaskSet (profile : Byte) (ignore : Half) (cmpClass cmpIngress : Byte) (s : State) :
    Host.Outcome State Fault Refusal :=
  s.takeRequest fun s => s.maskSet profile ignore cmpClass cmpIngress

/-- MASK_SELECT (R46). -/
def execMaskSelect (profile : Byte) (s : State) : Host.Outcome State Fault Refusal :=
  s.takeRequest fun s => s.maskSelect profile

end Sys2Proof.Machine
end

