-- ==== Sys2Proof/Machine/ScanRequests.lean ====
section
/-! DEFINITION. The scanner requests (08): SCAN SET, SCAN START, SCAN HALT. -/

namespace Sys2Proof.Machine

open Sys2Proof

/-- SCAN SET at its owner (R147). -/
def State.scanSet (s : State) (mode start stop boundary loss : Byte) : State :=
  match scanSettingsOf mode start stop boundary loss with
  | none => s.reply Kind.scanSet .range (.scanRefused s.scan.settings s.scan.state.tag)
  | some c =>
    if s.scan.state = .idle then
      (s.setScan { s.scan with settings := c, ignored := 0 }).reply Kind.scanSet .ok (.scanSettings c)
    else s.reply Kind.scanSet .state (.scanRefused s.scan.settings s.scan.state.tag)

/-- SCAN START at its owner: one REQUEST trigger and its outcome (R148). -/
def State.scanStart (s : State) : State :=
  let t := s.trigger
  t.1.reply Kind.scanStart .ok (.scanStarted t.2 t.1.scan.state.tag t.1.scan.state.current t.1.scan.ignored)

/-- SCAN HALT at its owner: IDLE, an open dwell abandoned (R149, R146). -/
def State.scanHalt (s : State) : State :=
  let quiet := match s.scan.state with
    | .dwelling _ => s.setRadio s.radio.quiet
    | _ => s
  (quiet.setScan { s.scan with state := .idle }).reply Kind.scanHalt .ok
    (.scanHalted s.scan.state.tag s.scan.state.current)

/-- SCAN_SET (R147). -/
def execScanSet (mode start stop boundary loss : Byte) (s : State) : Host.Outcome State Fault Refusal :=
  s.takeRequest fun s => s.scanSet mode start stop boundary loss

/-- SCAN_START (R148). -/
def execScanStart (s : State) : Host.Outcome State Fault Refusal := s.takeRequest fun s => s.scanStart

/-- SCAN_HALT (R149). -/
def execScanHalt (s : State) : Host.Outcome State Fault Refusal := s.takeRequest fun s => s.scanHalt

end Sys2Proof.Machine
end

