-- ==== Sys2Proof/Machine/Maps.lean ====
section
/-! DEFINITION. Slot maps (R120, R121), and the decision of a map switch (R124, R125). -/

namespace Sys2Proof.Machine

open Sys2Proof

/-- The sum of a map's 32 codes and its check word, modulo 65536 (R121). -/
def SlotMap.sum (m : SlotMap) : Half := m.codes.toList.foldl (· + ·) m.check

/-- A map is valid when that sum is 65535 (R121). It is formed each time it is asked for. -/
def SlotMap.valid (m : SlotMap) : Bool := m.sum == 65535

/-- Slot map `m`. -/
def Scheduler.map (c : Scheduler) (m : Fin 2) : SlotMap := c.maps.look m

/-- The map that is not active (R124). -/
def Scheduler.other (c : Scheduler) : Fin 2 := if c.active = 0 then 1 else 0

/-- Codes written to consecutive slots from slot `i` on (R122). -/
def writeCodes (t : Tab Half 32) (i : Nat) : List Half → Tab Half 32
  | [] => t
  | c :: rest => if h : i < 32 then writeCodes (t.put ⟨i, h⟩ c) (i + 1) rest else t

/-- The map that is not active made active if it is valid (R124, R125); the answer says whether it was. -/
def Scheduler.switch (c : Scheduler) : Scheduler × Bool :=
  if (c.map c.other).valid then ({ c with active := c.other }, true) else (c, false)

/-- The superframe boundary decides a staged MAP SWITCH and posts its reply, with the new superframe count (R125). -/
def State.decideStaged (s : State) : State :=
  if s.link.staged then
    let other := s.sched.other
    let sum := (s.sched.map other).sum
    let sw := s.sched.switch
    let s := (s.setSched sw.1).setLink { s.link with staged := false }
    if sw.2 then s.reply Kind.mapSwitch .ok (.activeMapAt s.sched.active s.sched.count)
    else s.reply Kind.mapSwitch .mapfault (.mapFaultAt s.sched.active sum s.sched.count)
  else s

end Sys2Proof.Machine
end

