-- ==== Sys2Proof/Machine/Schedule.lean ====
section
/-! DEFINITION. The scheduler requests (07): SLOT LENGTH, MAP WRITE, MAP READ, MAP SWITCH, SCHEDULE START, SCHEDULE STOP,
TIMING SET. -/

namespace Sys2Proof.Machine

open Sys2Proof

/-- The slot length taken: clamped to 250..4000 and rounded down to a multiple of 50 (R116). -/
def slotLengthTaken (v : Nat) : Nat := let c := clampNat 250 4000 v; c - c % 50

/-- SLOT LENGTH at its owner (R116). -/
def State.setSlotLength (s : State) (v : Half) : State :=
  if s.sched.isRunning then s.reply Kind.slotLength .state .empty
  else
    let t := slotLengthTaken v.toNat
    (s.setSched { s.sched with slotLen := t }).reply Kind.slotLength .ok (.slotLength t (t != v.toNat))

/-- The map that MAP WRITE makes (R122). -/
def SlotMap.written (m : SlotMap) (first : Nat) (codes : List Half) (check : Option Half) : SlotMap :=
  { codes := writeCodes m.codes first codes, check := check.getD m.check }

/-- The RANGE checks of R122 on the fields that name slots and codes. -/
def legalSpan (first : Nat) (codes : List Half) : Bool :=
  decide (first ≤ 31) && decide (first + codes.length ≤ 32) && codes.all fun c => (slotKindOf c).isSome

/-- MAP WRITE at its owner (R122). A list outside 1..32 codes does not match the kind and is answered FORMAT, reason LENGTH
(R155; log 28). -/
def State.mapWrite (s : State) (map first hasCheck : Byte) (check : Half) (codes : List Half) : State :=
  if codes.length = 0 ∨ 32 < codes.length then
    let len := 5 + 2 * codes.length
    s.formatReply (some Kind.mapWrite) (some len) .length (if maxBody < len then 0 else len)
  else
    match below 2 map.toNat, flagOf hasCheck with
    | some m, some c =>
      if legalSpan first.toNat codes then
        if s.sched.isRunning && m == s.sched.active then s.reply Kind.mapWrite .state .empty
        else
          let new := (s.sched.map m).written first.toNat codes (if c then some check else none)
          (s.setSched { s.sched with maps := s.sched.maps.put m new }).reply Kind.mapWrite .ok
            (.mapWritten m new.valid new.sum)
      else s.reply Kind.mapWrite .range .empty
    | _, _ => s.reply Kind.mapWrite .range .empty

/-- MAP READ at its owner (R123). -/
def State.mapReadRequest (s : State) (map : Byte) : State :=
  match below 2 map.toNat with
  | none => s.reply Kind.mapRead .range .empty
  | some m =>
    let t := s.sched.map m
    s.reply Kind.mapRead .ok (.mapRead t t.valid t.sum (m == s.sched.active))

/-- MAP SWITCH at its owner: decided at once while STOPPED, staged while RUNNING (R124, R125). -/
def State.mapSwitchRequest (s : State) : State :=
  if s.sched.isRunning then s.setLink { s.link with staged := true }
  else
    let sw := s.sched.switch
    if sw.2 then (s.setSched sw.1).reply Kind.mapSwitch .ok (.activeMap sw.1.active)
    else s.reply Kind.mapSwitch .mapfault (.mapFault s.sched.active (s.sched.map s.sched.other).sum)

/-- SCHEDULE START at its owner: RUNNING, superframe 0, slot 0 the next to start (R126; log 3). -/
def State.scheduleStart (s : State) : State :=
  if s.sched.isRunning then s.reply Kind.scheduleStart .state .empty
  else
    let m := s.sched.map s.sched.active
    if m.valid then
      (s.setSched { s.sched with state := .running (.awaitStart 0), count := 0, pendingD := none }).reply
        Kind.scheduleStart .ok (.activeMap s.sched.active)
    else s.reply Kind.scheduleStart .mapfault (.mapFault s.sched.active m.sum)

/-- An open dwell abandoned by SCHEDULE STOP: ARMED on the dwell's sector (R146). -/
def ScanState.stopped : ScanState → ScanState
  | .dwelling d => .armed d.sector
  | st => st

/-- SCHEDULE STOP at its owner: the open slot is aborted, contexts end, the pins RXON and TXON are released (R127, R94, R111,
R114, R146); that no sector line stays asserted is the model's choice (DESIGN CHOICE, log 11). -/
def State.scheduleStop (s : State) : State :=
  let s' := if s.sched.isRunning then
      ((s.setRadio Radio.off).setScan { s.scan with state := s.scan.state.stopped }).setSched
        { s.sched with state := .stopped, pendingD := none }
    else s
  s'.reply Kind.scheduleStop .ok (.stopped s.sched.count s.sched.slotIndex)

/-- TIMING SET at its owner (R130). -/
def State.timingSet (s : State) (index : Byte) : State :=
  match optionalOf nbrOf index with
  | none => s.reply Kind.timingSet .range .empty
  | some none => (s.setSync none).reply Kind.timingSet .ok (.timing none s.sched.holds.drift)
  | some (some n) =>
    if (s.nbr n).state = .vacant then s.reply Kind.timingSet .state .empty
    else (s.setSync (some n)).reply Kind.timingSet .ok (.timing (some n) s.sched.holds.drift)

/-! ## The commands -/

/-- SLOT_LENGTH (R116). -/
def execSlotLength (value : Half) (s : State) : Host.Outcome State Fault Refusal :=
  s.takeRequest fun s => s.setSlotLength value

/-- MAP_WRITE (R122). -/
def execMapWrite (map first hasCheck : Byte) (check : Half) (codes : List Half) (s : State) :
    Host.Outcome State Fault Refusal :=
  s.takeRequest fun s => s.mapWrite map first hasCheck check codes

/-- MAP_READ (R123). -/
def execMapRead (map : Byte) (s : State) : Host.Outcome State Fault Refusal :=
  s.takeRequest fun s => s.mapReadRequest map

/-- MAP_SWITCH (R124, R125). -/
def execMapSwitch (s : State) : Host.Outcome State Fault Refusal := s.takeRequest fun s => s.mapSwitchRequest

/-- SCHEDULE_START (R126). -/
def execScheduleStart (s : State) : Host.Outcome State Fault Refusal := s.takeRequest fun s => s.scheduleStart

/-- SCHEDULE_STOP (R127). -/
def execScheduleStop (s : State) : Host.Outcome State Fault Refusal := s.takeRequest fun s => s.scheduleStop

/-- TIMING_SET (R130). -/
def execTimingSet (index : Byte) (s : State) : Host.Outcome State Fault Refusal := s.takeRequest fun s => s.timingSet index

end Sys2Proof.Machine
end

