-- ==== Sys2Proof/Machine/Settings.lean ====
section
/-! DEFINITION. The LINK SETTINGS request (R13). -/

namespace Sys2Proof.Machine

open Sys2Proof

/-- A threshold lies in −128..383 (R13). -/
def legalThreshold (x : Int) : Bool := decide (-128 ≤ x) && decide (x ≤ 383)

/-- The settings that refuse, checked as carried, before any clamp (R13). -/
def legalSettings (c : CarriedSettings) : Bool :=
  legalThreshold c.tF.toInt && legalThreshold c.tR.toInt && decide (c.tF.toInt < c.tR.toInt)
    && legalThreshold c.t1.toInt && legalThreshold c.t2.toInt && legalThreshold c.t3.toInt
    && decide (c.t1.toInt < c.t2.toInt) && decide (c.t2.toInt < c.t3.toInt)

/-- The settings taken, the tuning values clamped to their ranges (R13). -/
def takenSettings (c : CarriedSettings) : LinkSettings where
  k := clampNat 0 6 c.k.toNat
  tF := c.tF.toInt
  tR := c.tR.toInt
  wF := clampNat 1 16 c.wF.toNat
  wR := clampNat 1 16 c.wR.toNat
  missLimit := clampNat 1 64 c.missLimit.toNat
  t1 := c.t1.toInt
  t2 := c.t2.toInt
  t3 := c.t3.toInt
  hyst := clampNat 0 127 c.hyst.toNat
  retryLimit := clampNat 0 15 c.retryLimit.toNat
  acqLimit := clampNat 1 255 c.acqLimit.toNat
  queueLimit := clampNat 1 32 c.queueLimit.toNat

/-- The clamped list: each setting whose carried value differed from the value taken (R13). DESIGN CHOICE (log 27): the names
stand in the order of the table of R13, which gives the list no order. -/
def clampedSettings (c : CarriedSettings) : List SettingName :=
  let t := takenSettings c
  let row := fun (name : SettingName) (carried now : Nat) => if carried = now then [] else [name]
  row .k c.k.toNat t.k ++ row .wF c.wF.toNat t.wF ++ row .wR c.wR.toNat t.wR
    ++ row .missLimit c.missLimit.toNat t.missLimit ++ row .hyst c.hyst.toNat t.hyst
    ++ row .retryLimit c.retryLimit.toNat t.retryLimit ++ row .acqLimit c.acqLimit.toNat t.acqLimit
    ++ row .queueLimit c.queueLimit.toNat t.queueLimit

/-- The state with the link settings replaced, all together (R13). -/
def State.setSettings (s : State) (ls : LinkSettings) : State := { s with mon := { s.mon with settings := ls } }

/-- LINK SETTINGS at its owner (R13). A write flag other than 0 or 1 is refused RANGE (R175). -/
def State.linkSettings (s : State) (wr : Byte) (c : CarriedSettings) : State :=
  match flagOf wr with
  | some false => s.reply Kind.linkSettings .ok (.settings s.mon.settings [])
  | some true =>
    if legalSettings c then
      (s.setSettings (takenSettings c)).reply Kind.linkSettings .ok (.settings (takenSettings c) (clampedSettings c))
    else s.reply Kind.linkSettings .range (.settings s.mon.settings [])
  | none => s.reply Kind.linkSettings .range (.settings s.mon.settings [])

/-- LINK_SETTINGS (R13). -/
def execLinkSettings (wr : Byte) (c : CarriedSettings) (s : State) : Host.Outcome State Fault Refusal :=
  s.takeRequest fun s => s.linkSettings wr c

end Sys2Proof.Machine
end

