-- ==== Sys2Proof/Machine/Dwell.lean ====
section
/-! DEFINITION. Dwells (08) and beacons (02, section 2.4): the start of a SCAN slot, what a dwell hears, the dwell end with
its hand-over, the scan report and the scanner's next state. -/

namespace Sys2Proof.Machine

open Sys2Proof

/-- The start of a SCAN slot (R140, R141). -/
def State.openScan (s : State) (slot : SlotIdx) : State :=
  match s.scan.state with
  | .armed sec =>
    if s.isPending .scanner then s.setScan { s.scan with state := .paused sec }
    else
      let d : Dwell := { sector := sec, count := s.sched.count, slot := slot, quiet := none, beacons := [], heard := 0,
                         failed := 0, other := 0 }
      (s.setScan { s.scan with state := .dwelling d }).setRadio { s.radio with rxon := true, sector := some sec }
  | _ => s

/-- The quiet code of the dwell: the code given at the end of the guard; one quiet period per dwell (R1, R141). -/
def State.takeQuiet (s : State) (code : Code) : State :=
  match s.scan.state with
  | .dwelling d =>
    match d.quiet with
    | none => s.setScan { s.scan with state := .dwelling { d with quiet := some code } }
    | some _ => s
  | _ => s

/-- A frame heard in a dwell, counted, and a beacon kept while the list holds fewer than 16 (R141). -/
def Dwell.hear (d : Dwell) (bytes : List Byte) (code : Code) (localTime : Nat) : Dwell :=
  match parseFrame bytes with
  | none => { d with failed := bump 255 d.failed }
  | some (.beacon id ep sl off) =>
    let b : HeardBeacon := { nodeId := id.toNat, epoch := ep, slot := sl, offset := off, code := code, localTime := localTime }
    { d with heard := bump 255 d.heard, beacons := if d.beacons.length < 16 then d.beacons ++ [b] else d.beacons }
  | some _ => { d with other := bump 255 d.other }

/-- A frame ends while the scanner is DWELLING; a frame that ends in the guard is not taken (R141). -/
def State.dwellArrival (s : State) (bytes : List Byte) (code : Code) (localTime : Nat) : State :=
  match s.scan.state, s.sched.openSlot with
  | .dwelling d, some o =>
    if o.part = .guard then s
    else s.setScan { s.scan with state := .dwelling (d.hear bytes code localTime) }
  | _, _ => s

/-! ## Beacons at the link monitor (R23 to R27) -/

/-- The sector margin for `sec` recorded (R23). -/
def Nbr.recordMargin (r : Nbr) (sec : Sector) (x : Int) : Nbr := { r with margins := r.margins.put sec (some x) }

/-- A beacon from `n` in SEEKING or LOST (R24). -/
def State.acquire (s : State) (n : NbrIdx) (sec : Sector) (epoch : Byte) (x : Int) : State :=
  let r := s.nbr n
  if x < s.mon.settings.tR then
    match r.sector with
    | none => s.setNbr n { r with sector := some sec }
    | some _ => s
  else
    let found : Nbr := { r.load x with sector := some sec, epoch := some epoch }
    match r.epoch with
    | none => (s.setNbr n found).changeState n .weak .acquired
    | some e =>
      if e = epoch then (s.setNbr n found).changeState n .weak .acquired
      else (s.setNbr n found.clearWindow).changeState n .held .epoch

/-- A beacon from `n` in UP, WEAK or HELD with a changed epoch (R25). -/
def State.epochChange (s : State) (n : NbrIdx) (sec : Sector) (epoch : Byte) (x : Int) : State :=
  let r := s.nbr n
  let restarted : Nbr := { (r.load x).clearWindow.clearRuns with sector := some sec, epoch := some epoch }
  if r.state = .held then (s.setNbr n restarted).postLink n .epoch none
  else (s.setNbr n restarted).changeState n .held .epoch

/-- A beacon from `n` in UP, WEAK or HELD with its stored epoch, on another sector: the handover test (R27). -/
def State.handover (s : State) (n : NbrIdx) (sec : Sector) (x : Int) : State :=
  let r := s.nbr n
  match r.acc with
  | none => s
  | some a =>
    if s.mon.settings.tR ≤ x ∧ marginOf a + s.mon.settings.hyst ≤ x then
      (s.setNbr n { (r.load x).clearRuns with sector := some sec }).postLink n .handover none
    else s

/-- One beacon of the hand-over at the link monitor, heard on sector `sec` (R23). -/
def State.takeBeacon (s : State) (sec : Sector) (b : HeardBeacon) : State :=
  let x := sampleOf b.code (s.mon.floors.look sec)
  match s.nbrWithId b.nodeId with
  | none => s
  | some n =>
    let s := s.modNbr n fun r => r.recordMargin sec x
    let r := s.nbr n
    if !r.state.heard then s.acquire n sec b.epoch x
    else if r.epoch ≠ some b.epoch then s.epochChange n sec b.epoch x
    else if r.sector = some sec then s.observe n (some x)
    else s.handover n sec x

/-! ## The dwell end (R142 to R144) -/

/-- One beacon handed over: the link monitor first, then the scheduler; and its line of the scan report (R142, R143). -/
def handOne (sec : Sector) (acc : State × List ReportBeacon) (b : HeardBeacon) : State × List ReportBeacon :=
  let line : ReportBeacon :=
    { nodeId := b.nodeId, epoch := b.epoch, sample := sampleOf b.code (acc.1.mon.floors.look sec),
      enrolled := acc.1.nbrWithId b.nodeId }
  ((acc.1.takeBeacon sec b).measure b, acc.2 ++ [line])

/-- The scanner's next state after a dwell on `sec` (R144). The sector after 5 is 0. -/
def ScanSettings.nextState (c : ScanSettings) (sec : Sector) : ScanState :=
  match c.mode with
  | .once | .onceLocked => if sec = c.stop then .idle else .armed (sec + 1)
  | .repeat => if sec = c.stop then .armed c.start else .armed (sec + 1)
  | .step => .waiting sec (if sec = c.stop then c.start else sec + 1)

/-- The noise floor of the dwell's sector becomes the quiet code (R2, R142). -/
def State.writeFloor (s : State) (sec : Sector) (quiet : Option Code) : State :=
  match quiet with
  | none => s
  | some c => { s with mon := { s.mon with floors := s.mon.floors.put sec c } }

/-- The SCANNER notice of a dwell, its report lines being those of the beacons handed over (R143). -/
def State.postScan (s : State) (d : Dwell) (lines : List ReportBeacon) (next : ScanState) : State :=
  s.post .scanner
    (.scanner d.sector d.count d.slot (s.mon.floors.look d.sector) (lines.take 8) (decide (8 < d.heard)) d.heard d.failed
      d.other next.tag next.current next.next) none

/-- The dwell end, in order: floor, hand-over, report, next state (R142). -/
def State.dwellEnd (s : State) (d : Dwell) : State :=
  let s := s.writeFloor d.sector d.quiet
  let handed := d.beacons.foldl (handOne d.sector) (s, [])
  let next := s.scan.settings.nextState d.sector
  let s := handed.1.postScan d handed.2 next
  s.setScan { s.scan with state := next }

end Sys2Proof.Machine
end

