-- ==== Sys2Proof/Machine/Transmit.lean ====
section
/-! DEFINITION. The transmit engine (06): opening a TX slot, choosing the in-flight set, the burst, the ACKSET, settling,
beacons. -/

namespace Sys2Proof.Machine

open Sys2Proof

/-! ## Choosing the in-flight set (R101) -/

/-- The payload length of a stored frame. -/
def State.frameLen (s : State) (h : Handle) : Nat :=
  match s.frame h with
  | none => 0
  | some f => f.len

/-- The sequence a stored frame took when it joined its queue (R68). -/
def State.frameSeq (s : State) (h : Handle) : Seq :=
  match s.frame h with
  | none => 0
  | some f => f.seq.getD 0

/-- The head frames that could not fit an empty body are discarded AIRTIME, one after another; the queue left (R101, step 1). -/
def dropOversize (cost body : Nat) : List Handle → State → State × List Handle
  | [], s => (s, [])
  | h :: rest, s =>
    if body < airtime cost (s.frameLen h) then dropOversize cost body rest (s.discard .airtime h) else (s, h :: rest)

/-- The frames that join the set, in queue order, while at most `room` more may join and the burst airtime stays within
the body; `used` is the burst airtime so far (R101, steps 2 and 3). -/
def fitFrames (cost body : Nat) (len : Handle → Nat) : Nat → Option Nat → List Handle → List Handle
  | 0, _, _ => []
  | _, _, [] => []
  | room + 1, used, h :: rest =>
    let burst := match used with
      | none => airtime cost (len h)
      | some u => u + 128 + airtime cost (len h)
    if burst ≤ body then h :: fitFrames cost body len room (some burst) rest else []

/-- The in-flight set of a TX slot for `n`, at most 8 frames from the head, after any AIRTIME discards (R101). -/
def State.selectFrames (s : State) (n : NbrIdx) (cost : Nat) : State × List Handle :=
  let body := slotBody s.sched.slotLen
  let kept := dropOversize cost body (s.queue n) s
  let s := kept.1.setQueue n kept.2
  (s, fitFrames cost body s.frameLen 8 none kept.2)

/-- The start of a TX slot for `n` (R98 to R102). States UP, WEAK and HELD always have a sector (R16; log 23). -/
def State.openTx (s : State) (n : NbrIdx) : State :=
  let r := s.nbr n
  if r.state.heard ∧ s.sched.holds.any = false then
    let tier := tierOf s.mon.settings r.cap (r.acc.map marginOf)
    let ctx := fun (content : TxContent) =>
      ({ nbr := some n, sector := r.sector.getD 0, tier := tier, cost := byteCost tier, content := content,
         phase := .burst, ackset := none } : TxCtx)
    if r.state = .held then s.setRadio { s.radio with tx := some (ctx .hold) }
    else
      let chosen := s.selectFrames n (byteCost tier)
      let s := chosen.1
      match chosen.2 with
      | [] => s.setRadio { s.radio with tx := some (ctx .hold) }
      | h :: rest =>
        s.setRadio { s.radio with tx := some (ctx (.frames ((h :: rest).map fun h => (h, s.frameSeq h)))) }
  else s

/-! ## The burst (R103) -/

/-- The DATA frame of a stored frame, sent to neighbour record `r` with sequence `q` (R103). -/
def State.dataFrame (s : State) (r : Nbr) (h : Handle) (q : Seq) : List Byte :=
  match s.frame h with
  | none => []
  | some f => dataBytes { tx := s.ownId, rx := r.idField, seq := q, dest := f.dest, cls := f.cls, hops := f.hops,
                          payload := s.payload f }

/-- The frames of a TX slot's content (R102, R103). -/
def State.contentFrames (s : State) (n : NbrIdx) : TxContent → List (List Byte)
  | .frames set => set.map fun hq => s.dataFrame (s.nbr n) hq.1 hq.2
  | .hold => [holdBytes s.ownId (s.nbr n).idField]
  | .nothing => []

/-- The air ticks of a sent frame: the preamble, then its bytes, delimiter and check among them, at the byte cost of the tier
that the preamble told (R9, R10, R176). -/
def frameTicks (tier : Fin 4) (frame : List Byte) : Nat := 320 + frame.length * byteCost tier

/-- The first tick of the body in a TX slot: the content goes on the air at the slot's tier (R8, R103). A context that names no
neighbour sends nothing (R109). -/
def State.startBurst (s : State) (ctx : TxCtx) : State :=
  match ctx.nbr with
  | none => s
  | some n =>
    let air : OnAir := { kind := .burst, sector := ctx.sector, tier := ctx.tier,
                         frames := (s.contentFrames n ctx.content).map delimited }
    s.setRadio { s.radio with txon := true, sector := some ctx.sector, onAir := some air }

/-- The offset a beacon states: it starts at the first tick of the body, after the 20 µs guard (R113). -/
def beaconOffset : Half := 20

/-- The first tick of the body in a BEACON slot that sends: the beacon goes on the air at tier 0 (R9, R112, R113). -/
def State.startBeacon (s : State) (sec : Sector) (slot : SlotIdx) : State :=
  match s.part.identity with
  | none => s
  | some i =>
    let bytes := beaconBytes (BitVec.ofNat 16 i.nodeId) i.epoch (BitVec.ofNat 8 slot.val) beaconOffset
    s.setRadio { s.radio with beacon := none, txon := true, sector := some sec,
                              onAir := some { kind := .beacon, sector := sec, tier := 0, frames := [delimited bytes] } }

/-- The last frame of the content has ended: TXON released, RXON asserted, LISTEN (R103). -/
def State.endBurst (s : State) : State :=
  match s.radio.tx, s.radio.onAir with
  | some ctx, some air =>
    if air.kind = .burst then
      s.setRadio { s.radio with tx := some { ctx with phase := .listen }, onAir := none, txon := false, rxon := true }
    else s
  | _, _ => s

/-- A beacon or an ACKSET of this part has ended on the air: TXON released (R91, R112). -/
def State.endAir (s : State) (kind : AirKind) : State :=
  match s.radio.onAir with
  | some air => if air.kind = kind then s.setRadio { s.radio with onAir := none, txon := false } else s
  | none => s

/-! ## The ACKSET (R104) -/

/-- A sound frame in the tail of a TX slot for `n`: foreign, the valid ACKSET, or a further one (R104). -/
def State.soundInTail (s : State) (ctx : TxCtx) (n : NbrIdx) (f : AirFrame) (code : Code) : State :=
  match f with
  | .ackset tx rx list =>
    if idIs s.ownNodeId rx && idIs (s.nbr n).nodeId tx then
      match ctx.ackset with
      | none => s.setRadio { s.radio with tx := some { ctx with ackset := some (code, list) } }
      | some _ => s
    else s.countForeign
  | _ => s.countForeign

/-- A frame ends in a TX slot. It is taken only in the LISTEN phase and the slot's tail (R104); after a retire of the
neighbour it is ignored and counted nowhere (R109). -/
def State.txArrival (s : State) (bytes : List Byte) (code : Code) : State :=
  match s.radio.tx, s.sched.openSlot with
  | some ctx, some o =>
    if ctx.phase = .listen ∧ o.part = .tail then
      match ctx.nbr with
      | none => s
      | some n =>
        match parseFrame bytes with
        | none => s.countCheckFail
        | some f => s.soundInTail ctx n f code
    else s
  | _, _ => s

/-! ## Settling (R105 to R107) -/

/-- Handle `h` taken from `n`'s queue; the frames left behind keep their order (R69). -/
def State.unqueue (s : State) (n : NbrIdx) (h : Handle) : State := s.setQueue n ((s.queue n).erase h)

/-- An in-flight frame not on the list: its retries rise, and beyond the retry limit it is discarded RETRY (R105, R106). -/
def State.retryFrame (s : State) (n : NbrIdx) (h : Handle) : State :=
  let s := s.modCounters n fun c => { c with retries := bump 65535 c.retries }
  match s.frame h with
  | none => s
  | some f =>
    let r := f.retries.getD 0 + 1
    if s.mon.settings.retryLimit < r then (s.unqueue n h).discard .retry h
    else s.setFrame h (some { f with retries := some r })

/-- One in-flight frame settled against the ACKSET's list (R105). -/
def settleOne (n : NbrIdx) (list : List Seq) (s : State) (hq : Handle × Seq) : State :=
  if list.contains hq.2 then
    ((s.unqueue n hq.1).release hq.1).modCounters n fun c => { c with acked := bump 65535 c.acked }
  else s.retryFrame n hq.1

/-- The in-flight set settled, frame by frame in queue order; without an ACKSET every frame counts as not listed (R105, R106). -/
def State.settle (s : State) (n : NbrIdx) (set : List (Handle × Seq)) (list : List Seq) : State :=
  (set.foldl (settleOne n list) s).modCounters n fun c => { c with sent := satAdd 65535 c.sent set.length }

/-- The end of a TX slot: settling, then one observation (R105 to R107). A context that names no neighbour settles and
observes nothing (R109). -/
def State.txEnd (s : State) (ctx : TxCtx) : State :=
  match ctx.nbr with
  | none => s
  | some n =>
    let list := match ctx.ackset with | none => [] | some a => a.2
    let s := match ctx.content with
      | .frames set => s.settle n set list
      | .hold => s
      | .nothing => s
    s.observe n (ctx.ackset.map fun a => sampleOf a.1 (s.mon.floors.look ctx.sector))

end Sys2Proof.Machine
end

