-- ==== Sys2Proof/Machine/Slots.lean ====
section
/-! DEFINITION. The events of the slot clock and of the air (07, section 7.7; 05; 06; 08): SLOT_START to SUPERFRAME_BOUNDARY
and the arrivals. An event in a state in which the spec says it cannot occur changes nothing (log 1). -/

namespace Sys2Proof.Machine

open Sys2Proof

/-! ## Slot start (R128) -/

/-- The slot that opens at index `i`: its code from the active map, and for slot 31 its correction (R128, R132). -/
def Scheduler.slotAt (c : Scheduler) (i : SlotIdx) : OpenSlot :=
  { index := i, kind := (slotKindOf ((c.map c.active).codes.look i)).getD .idle, part := .guard,
    corr := if i = 31 then correctionOf c.pendingD else 0, boundaryTaken := false }

/-- The scheduler with that slot open; the start of slot 31 uses up the pending measurement (R132). -/
def Scheduler.startSlot (c : Scheduler) (i : SlotIdx) : Scheduler :=
  { c with state := .running (.opened (c.slotAt i)), pendingD := if i = 31 then none else c.pendingD }

/-- The start of a BEACON slot: a beacon waits for the body if the part has an identity and no hold is set (R112). -/
def State.openBeacon (s : State) (sec : Sector) : State :=
  if s.part.identity.isSome ∧ s.sched.holds.any = false then s.setRadio { s.radio with beacon := some sec } else s

/-- The slot handed to its owner (R128). -/
def State.openOwner (s : State) (i : SlotIdx) : SlotKind → State
  | .idle => s
  | .tx n => s.openTx n
  | .rx n => s.openRx n
  | .beacon sec => s.openBeacon sec
  | .scan => s.openScan i

/-- The start of the next slot (R115, R128). -/
def State.slotStart (s : State) : State :=
  match s.sched.state with
  | .running (.awaitStart i) => (s.setSched (s.sched.startSlot i)).openOwner i (s.sched.slotAt i).kind
  | _ => s

/-! ## Within the slot -/

/-- The open slot's part changed. -/
def State.enterPart (s : State) (o : OpenSlot) (p : SlotPart) : State :=
  s.setSched { s.sched with state := .running (.opened { o with part := p }) }

/-- The start of the body: what the slot is to send goes on the air (R103, R112, R115). -/
def State.bodyStart (s : State) : State :=
  match s.sched.openSlot with
  | none => s
  | some o =>
    if o.part = .guard then
      let s := s.enterPart o .body
      match s.radio.tx, s.radio.beacon with
      | some ctx, _ => s.startBurst ctx
      | none, some sec => s.startBeacon sec o.index
      | none, none => s
    else s

/-- The start of the tail; in an RX slot the ACKSET is sent (R91, R115). -/
def State.tailStart (s : State) : State :=
  match s.sched.openSlot with
  | none => s
  | some o =>
    if o.part = .tail then s
    else
      let s := s.enterPart o .tail
      match s.radio.rx with
      | some ctx => s.rxTail ctx
      | none => s

/-! ## Slot end (R115) -/

/-- The end of the slot at its owner (R92, R105 to R107, R142). An abandoned dwell leaves nothing to end (R146). -/
def State.endOwner (s : State) : SlotKind → State
  | .idle => s
  | .beacon _ => s
  | .tx _ =>
    match s.radio.tx with
    | some ctx => s.txEnd ctx
    | none => s
  | .rx _ =>
    match s.radio.rx with
    | some ctx => s.rxEnd ctx
    | none => s
  | .scan =>
    match s.scan.state with
    | .dwelling d => s.dwellEnd d
    | _ => s

/-- What follows the end of a slot: the start of the next, or after slot 31 the boundary if it was not taken (R115, R129). -/
def OpenSlot.after (o : OpenSlot) : Progress :=
  if o.index = 31 then (if o.boundaryTaken then .awaitStart 0 else .awaitBoundary) else .awaitStart (o.index + 1)

/-- The end of the open slot: the owner's work runs whole, the contexts end and the front end is released (R92, R99, R115,
R142; pins: log 11). -/
def State.slotEnd (s : State) : State :=
  match s.sched.openSlot with
  | none => s
  | some o =>
    let s := (s.endOwner o.kind).setRadio Radio.off
    s.setSched { s.sched with state := .running o.after }

/-! ## Superframe boundary (R129) -/

/-- The acquisition age of a SEEKING neighbour rises, stopping at 255 (R28). -/
def Nbr.grow (r : Nbr) : Nbr := if r.state = .seeking then { r with age := bump 255 r.age } else r

/-- A SEEKING neighbour whose age has reached the acquisition limit becomes LOST (R28). -/
def timeOut (s : State) (n : NbrIdx) : State :=
  if (s.nbr n).state = .seeking ∧ s.mon.settings.acqLimit ≤ (s.nbr n).age then s.changeState n .lost .timeout else s

/-- The link monitor's part of a boundary: every SEEKING neighbour ages, and those timed out become LOST one at a time in
ascending index order (R28). -/
def State.ageSeeking (s : State) : State :=
  let s := { s with mon := { s.mon with nbrs := s.mon.nbrs.each Nbr.grow } }
  (List.finRange 16).foldl timeOut s

/-- The work of a boundary: count, staged switch, aging, BOUNDARY trigger (R118, R125, R28, R138, R129; order: log 18). -/
def State.boundaryWork (s : State) : State :=
  let s := s.setSched { s.sched with count := s.sched.count + 1 }
  s.decideStaged.ageSeeking.boundaryTrigger

/-- The superframe boundary: at the end of slot 31, before or after that end is taken (R115, R129). -/
def State.boundary (s : State) : State :=
  match s.sched.state with
  | .running .awaitBoundary => (s.setSched { s.sched with state := .running (.awaitStart 0) }).boundaryWork
  | .running (.opened o) =>
    if o.index = 31 ∧ o.boundaryTaken = false then
      (s.setSched { s.sched with state := .running (.opened { o with boundaryTaken := true }) }).boundaryWork
    else s
  | _ => s

/-! ## The commands -/

/-- SLOT_START (R128). -/
def execSlotStart (s : State) : Host.Outcome State Fault Refusal := .next s.slotStart

/-- BODY_START (R115). -/
def execBodyStart (s : State) : Host.Outcome State Fault Refusal := .next s.bodyStart

/-- BURST_END (R103). -/
def execBurstEnd (s : State) : Host.Outcome State Fault Refusal := .next s.endBurst

/-- BEACON_END (R112). -/
def execBeaconEnd (s : State) : Host.Outcome State Fault Refusal := .next (s.endAir .beacon)

/-- QUIET_CODE (R141). -/
def execQuietCode (code : BitVec 10) (s : State) : Host.Outcome State Fault Refusal := .next (s.takeQuiet code)

/-- TAIL_START (R91). -/
def execTailStart (s : State) : Host.Outcome State Fault Refusal := .next s.tailStart

/-- RX_FRAME_ARRIVAL (R78 to R90). -/
def execRxFrameArrival (bytes : List Byte) (code : BitVec 10) (s : State) : Host.Outcome State Fault Refusal :=
  .next (s.rxArrival bytes code)

/-- ACKSET_ARRIVAL (R104). -/
def execAcksetArrival (bytes : List Byte) (code : BitVec 10) (s : State) : Host.Outcome State Fault Refusal :=
  .next (s.txArrival bytes code)

/-- DWELL_FRAME_ARRIVAL (R141). -/
def execDwellFrameArrival (bytes : List Byte) (code : BitVec 10) (localTime : Nat) (s : State) :
    Host.Outcome State Fault Refusal :=
  .next (s.dwellArrival bytes code localTime)

/-- SLOT_END (R115). -/
def execSlotEnd (s : State) : Host.Outcome State Fault Refusal := .next s.slotEnd

/-- SUPERFRAME_BOUNDARY (R129). -/
def execSuperframeBoundary (s : State) : Host.Outcome State Fault Refusal := .next s.boundary

/-- ACKSET_END (R91). -/
def execAcksetEnd (s : State) : Host.Outcome State Fault Refusal := .next (s.endAir .ackset)

end Sys2Proof.Machine
end

