-- ==== Sys2Proof/Machine/Starts.lean ====
section
/-! DEFINITION. Identity, supply, STATUS and the starts (10). -/

namespace Sys2Proof.Machine

open Sys2Proof

/-! ## IDENTIFY (R168) -/

/-- The identity taken, and the IDENTITY hold removed (R167, R168). -/
def State.setIdentity (s : State) (i : Identity) : State :=
  (s.setPart { s.part with identity := some i }).setSched
    { s.sched with holds := { s.sched.holds with identity := false } }

/-- IDENTIFY at its owner (R168). -/
def State.identifyRequest (s : State) (nodeId : Half) (epoch : Byte) : State :=
  if legalNodeId nodeId.toNat then
    if s.sched.isRunning = false ∧ s.nbrWithId nodeId.toNat = none then
      let i : Identity := { nodeId := nodeId.toNat, epoch := epoch }
      (s.setIdentity i).reply Kind.identify .ok (.identified i s.part.identity s.sched.holds.identity)
    else s.reply Kind.identify .state (.identifyRefused s.part.identity s.sched.isRunning)
  else s.reply Kind.identify .range (.identifyRefused s.part.identity s.sched.isRunning)

/-! ## SUPPLY-LOW (R169, R170) -/

/-- The SUPPLY notice of an edge, as the state stands after it (R170). -/
def State.postSupply (s : State) (edge : Edge) (cut : Option Cut) : State :=
  s.post .supply (.supply edge s.part.supplyLow s.part.latch cut s.sched.count) none

/-- What an assertion of SUPPLY-LOW cuts: the transmission on the air (R169, R170). -/
def Radio.cutNow (r : Radio) : Cut :=
  match r.onAir with
  | none => .none
  | some air => match air.kind with
    | .burst => .burst
    | .ackset => .ackset
    | .beacon => .beacon

/-- The front end after an assertion: a transmission on the air is cut; a TX slot in the BURST phase is aborted (R110), a
beacon not yet begun is suppressed (R114). A LISTEN phase and an RX slot go on. In the guard of a TX slot nothing is on
the air yet, and the phase is BURST (R99; log 10). -/
def Radio.cut (r : Radio) : Radio :=
  let r := match r.onAir with
    | none => r
    | some _ => { r with onAir := none, txon := false }
  let r := { r with beacon := none }
  match r.tx with
  | none => r
  | some ctx => match ctx.phase with
    | .burst => { r with tx := none }
    | .listen => r

/-- The SUPPLY hold set or removed (R119). -/
def State.setSupplyHold (s : State) (f : Bool) : State :=
  s.setSched { s.sched with holds := { s.sched.holds with supply := f } }

/-- The assertion of SUPPLY-LOW (R169). DESIGN CHOICE (log 31): offered while SUPPLY-LOW stands asserted, it is taken as an edge
all the same. While a start is in progress the edge is ignored, but for the level of the pin (R172). -/
def State.supplyAssert (s : State) : State :=
  if s.part.starting.isSome then s.setPart { s.part with supplyLow := true }
  else
    let cut := s.radio.cutNow
    let s := (s.setPart { s.part with supplyLow := true, latch := true }).setSupplyHold true
    (s.setRadio s.radio.cut).postSupply .asserted (some cut)

/-- The de-assertion of SUPPLY-LOW (R169, R172). DESIGN CHOICE (log 31): offered while SUPPLY-LOW stands released, it is taken
as an edge all the same. -/
def State.supplyRelease (s : State) : State :=
  if s.part.starting.isSome then s.setPart { s.part with supplyLow := false }
  else ((s.setPart { s.part with supplyLow := false }).setSupplyHold false).postSupply .released none

/-! ## STATUS (R171) -/

/-- What STATUS reports (R171). -/
def State.statusReport (s : State) : StatusReport :=
  { cause := s.part.cause, latch := s.part.latch, level := s.part.supplyLow, identity := s.part.identity,
    running := s.sched.isRunning, holds := s.sched.holds, active := s.sched.active, slotLen := s.sched.slotLen,
    count := s.sched.count, sync := s.sched.sync, lastD := s.sched.lastD, profile := s.path.active,
    freeEntries := s.path.entries.count Option.isNone, nextFree := s.path.nextFree, freePages := s.store.freePages,
    freeRecords := s.store.freeRecords, deliveryLen := s.store.delivery.length, scanner := s.scan.state.tag,
    current := s.scan.state.current, ignored := s.scan.ignored }

/-- STATUS at its owner; it clears the supply-dip latch that it reports (R171). -/
def State.statusRequest (s : State) : State :=
  (s.setPart { s.part with latch := false }).reply Kind.status .ok (.status s.statusReport)

/-! ## Warm restart (R173) -/

/-- A neighbour record after a warm restart (R17). -/
def Nbr.warm (r : Nbr) : Nbr :=
  if r.state = .vacant then Nbr.vacant
  else { Nbr.vacant with state := .seeking, nodeId := r.nodeId, sector := r.sector, epoch := r.epoch, cap := r.cap }

/-- A path entry after a warm restart: a LIVE FORWARD entry becomes PARKED (R40). -/
def warmEntry : Entry → Entry
  | none => none
  | some r => match r.action with
    | .forward _ => if r.state = .live then some { r with state := .parked } else some r
    | _ => some r

/-- The link monitor after a warm restart: settings and floors are kept (R2, R15, R17). -/
def Monitor.warm (m : Monitor) : Monitor := { m with nbrs := m.nbrs.each Nbr.warm }

/-- The path table after a warm restart (R40). -/
def PathTable.warm (t : PathTable) : PathTable := { t with entries := t.entries.each warmEntry, lastMatch := none }

/-- The slot scheduler after a warm restart (R117, R119). -/
def Scheduler.warm (c : Scheduler) (level : Bool) : Scheduler :=
  { c with state := .stopped, count := 0, pendingD := none, lastD := none,
           holds := { identity := c.holds.identity, supply := level, drift := false } }

/-- The sector scanner after a warm restart (R135). -/
def Scanner.warm (c : Scanner) : Scanner := { c with state := .idle, ignored := 0 }

/-- The warm restart, one event: open activity aborted, every block at its warm values, the RESTART reply and the START
notice posted (R173, R164, R174). The frame store takes its cold values (R76). -/
def State.warmRestart (s : State) : State :=
  let start := Notice.start .warmRequest s.part.identity s.part.supplyLow s.part.latch
  let link : HostLink := { s.link with error := false, staged := false, reply := none, notices := [start] }
  let s' : State :=
    { s with link := link, mon := s.mon.warm, path := s.path.warm, store := FrameStore.cold, radio := Radio.off,
             sched := s.sched.warm s.part.supplyLow, scan := s.scan.warm, part := { s.part with cause := .warmRequest } }
  s'.reply Kind.restart .ok (.restarted s.part.identity s.sched.isRunning)

/-! ## Cold starts (R172) -/

/-- A cold start begins: any operation and any transaction in progress end without their effects, TXON and RXON are
released (R165, R172). -/
def State.beginStart (s : State) (cause : StartCause) : State :=
  { s with
    link := { s.link with phase := .none, staged := false, reply := none },
    radio := Radio.off,
    sched := { s.sched with state := .stopped },
    scan := { s.scan with state := .idle },
    part := { s.part with starting := some cause } }

/-- A RESTART request at its owner, by the form byte it carries: COLD 0, WARM 1, any other refused RANGE (R173, R175). -/
def State.restartRequest (s : State) (form : Byte) : State :=
  match form.toNat with
  | 0 => s.beginStart .coldRequest
  | 1 => s.warmRestart
  | _ => s.reply Kind.restart .range .empty

/-- Power-on (R172). -/
def State.powerOn (s : State) : State := s.beginStart .power

/-- RESET asserted: cause PIN, or POWER where it is asserted during power-on (R172; log 21). -/
def State.resetAssert (s : State) : State :=
  let s := s.setPart { s.part with resetLow := true }
  if s.part.starting = some .power then s else s.beginStart .pin

/-- The start completes: every block takes its cold-start values (R172). Where no start is in progress the event cannot
occur (log 1). -/
def State.completeStart (s : State) : State :=
  match s.part.starting with
  | none => s
  | some cause => State.cold cause s.part.supplyLow s.pending

/-! ## The commands -/

/-- IDENTIFY (R168). -/
def execIdentify (nodeId : Half) (epoch : Byte) (s : State) : Host.Outcome State Fault Refusal :=
  s.takeRequest fun s => s.identifyRequest nodeId epoch

/-- STATUS (R171). -/
def execStatus (s : State) : Host.Outcome State Fault Refusal := s.takeRequest fun s => s.statusRequest

/-- RESTART_WARM (R173). -/
def execRestartWarm (s : State) : Host.Outcome State Fault Refusal := s.takeRequest fun s => s.restartRequest 1

/-- RESTART_COLD (R172). -/
def execRestartCold (s : State) : Host.Outcome State Fault Refusal := s.takeRequest fun s => s.restartRequest 0

/-- RESTART_RANGE (R173). -/
def execRestartRange (form : Byte) (s : State) : Host.Outcome State Fault Refusal :=
  s.takeRequest fun s => s.restartRequest form

/-- POWER_ON (R172). -/
def execPowerOn (s : State) : Host.Outcome State Fault Refusal := .next s.powerOn

/-- RESET (R172). -/
def execReset (s : State) : Host.Outcome State Fault Refusal := .next s.resetAssert

/-- COLD_START_COMPLETION (R172). -/
def execColdStartCompletion (s : State) : Host.Outcome State Fault Refusal := .next s.completeStart

/-- SUPPLY_LOW_ASSERTION (R169). -/
def execSupplyLowAssertion (s : State) : Host.Outcome State Fault Refusal := .next s.supplyAssert

/-- SUPPLY_LOW_DEASSERTION (R169). -/
def execSupplyLowDeassertion (s : State) : Host.Outcome State Fault Refusal := .next s.supplyRelease

end Sys2Proof.Machine
end

