-- ==== Sys2Proof/Machine/Dispatch.lean ====
section
/-! DEFINITION. The dispatch: one arm per command, each one direct call of its meaning, in the order of the table. -/

namespace Sys2Proof.Machine

open Sys2Proof

/-- What a command does to everything but the queue of commands that wait. -/
def exec (i : Instr) (s : State) : Host.Outcome State Fault Refusal :=
  match i with
  | .selectFall => Sys2Proof.Machine.execSelectFall s
  | .write => Sys2Proof.Machine.execWrite s
  | .read => Sys2Proof.Machine.execRead s
  | .invalidTransactionKind => Sys2Proof.Machine.execInvalidTransactionKind s
  | .malformedRecord kind len taken => Sys2Proof.Machine.execMalformedRecord kind len taken s
  | .readCompletion => Sys2Proof.Machine.execReadCompletion s
  | .readEndedEarly => Sys2Proof.Machine.execReadEndedEarly s
  | .linkSettings wr c => Sys2Proof.Machine.execLinkSettings wr c s
  | .neighbourEnrol index nodeId hint cap => Sys2Proof.Machine.execNeighbourEnrol index nodeId hint cap s
  | .neighbourRetire index => Sys2Proof.Machine.execNeighbourRetire index s
  | .neighbourConfirm index => Sys2Proof.Machine.execNeighbourConfirm index s
  | .neighbourQuery index clear => Sys2Proof.Machine.execNeighbourQuery index clear s
  | .lookup key => Sys2Proof.Machine.execLookup key s
  | .find state anyKey key => Sys2Proof.Machine.execFind state anyKey key s
  | .findFree anyKey key => Sys2Proof.Machine.execFindFree anyKey key s
  | .entryWrite index e => Sys2Proof.Machine.execEntryWrite index e s
  | .entryPlace e => Sys2Proof.Machine.execEntryPlace e s
  | .entryRead index => Sys2Proof.Machine.execEntryRead index s
  | .entryState target state => Sys2Proof.Machine.execEntryState target state s
  | .tableClear scope => Sys2Proof.Machine.execTableClear scope s
  | .maskSet profile ignore cmpClass cmpIngress => Sys2Proof.Machine.execMaskSet profile ignore cmpClass cmpIngress s
  | .maskSelect profile => Sys2Proof.Machine.execMaskSelect profile s
  | .frameSend dest cls hops payload => Sys2Proof.Machine.execFrameSend dest cls hops payload s
  | .counters clear => Sys2Proof.Machine.execCounters clear s
  | .slotLength value => Sys2Proof.Machine.execSlotLength value s
  | .mapWrite map first hasCheck check codes => Sys2Proof.Machine.execMapWrite map first hasCheck check codes s
  | .mapRead map => Sys2Proof.Machine.execMapRead map s
  | .mapSwitch => Sys2Proof.Machine.execMapSwitch s
  | .scheduleStart => Sys2Proof.Machine.execScheduleStart s
  | .scheduleStop => Sys2Proof.Machine.execScheduleStop s
  | .timingSet index => Sys2Proof.Machine.execTimingSet index s
  | .scanSet mode start stop boundary loss => Sys2Proof.Machine.execScanSet mode start stop boundary loss s
  | .scanStart => Sys2Proof.Machine.execScanStart s
  | .scanHalt => Sys2Proof.Machine.execScanHalt s
  | .identify nodeId epoch => Sys2Proof.Machine.execIdentify nodeId epoch s
  | .status => Sys2Proof.Machine.execStatus s
  | .restartWarm => Sys2Proof.Machine.execRestartWarm s
  | .restartCold => Sys2Proof.Machine.execRestartCold s
  | .powerOn => Sys2Proof.Machine.execPowerOn s
  | .reset => Sys2Proof.Machine.execReset s
  | .coldStartCompletion => Sys2Proof.Machine.execColdStartCompletion s
  | .supplyLowAssertion => Sys2Proof.Machine.execSupplyLowAssertion s
  | .supplyLowDeassertion => Sys2Proof.Machine.execSupplyLowDeassertion s
  | .slotStart => Sys2Proof.Machine.execSlotStart s
  | .bodyStart => Sys2Proof.Machine.execBodyStart s
  | .burstEnd => Sys2Proof.Machine.execBurstEnd s
  | .beaconEnd => Sys2Proof.Machine.execBeaconEnd s
  | .quietCode code => Sys2Proof.Machine.execQuietCode code s
  | .tailStart => Sys2Proof.Machine.execTailStart s
  | .rxFrameArrival bytes code => Sys2Proof.Machine.execRxFrameArrival bytes code s
  | .acksetArrival bytes code => Sys2Proof.Machine.execAcksetArrival bytes code s
  | .dwellFrameArrival bytes code localTime => Sys2Proof.Machine.execDwellFrameArrival bytes code localTime s
  | .slotEnd => Sys2Proof.Machine.execSlotEnd s
  | .superframeBoundary => Sys2Proof.Machine.execSuperframeBoundary s
  | .acksetEnd => Sys2Proof.Machine.execAcksetEnd s
  | .restartRange form => Sys2Proof.Machine.execRestartRange form s

end Sys2Proof.Machine
end

