-- ==== Sys2Proof/WellFormed.lean ====
section
/-! DEFINITION. Which terms of the syntax are commands of the part. A field that the part itself judges (and refuses RANGE)
may hold any value; the checks here are on forms that no event of the part has. -/

namespace Sys2Proof

open Sys2Proof.Machine

/-- The longest superframe time: 32 slots of 4000 µs and a correction of 25 µs (R115, R116, R132). -/
def longestSuperframe : Nat := 32 * 4000 + 25

/-- A malformed record is one that R155 judges malformed, its body bytes taken within its length, and none taken where the
length is absent or above 1448. -/
def wfMalformed (kind : Option Byte) (len : Option Half) (taken : Half) : Bool :=
  (malformedReason kind (len.map BitVec.toNat) taken.toNat).isSome
    && (match len with
        | none => taken == 0
        | some l => if maxBody < l.toNat then taken == 0 else decide (taken.toNat ≤ l.toNat))
    && (kind.isSome || len.isNone)

/-- A command is well formed. -/
def Instr.wf : Instr → Bool
  | .malformedRecord kind len taken => wfMalformed kind len taken
  | .find state _ _ => state != 0
  | .frameSend _ _ _ payload => decide (1 ≤ payload.length) && decide (payload.length ≤ 1440)
  | .mapWrite _ _ _ _ codes => decide (1 ≤ codes.length) && decide (codes.length ≤ 32)
  | .restartRange form => form != 0 && form != 1
  | .dwellFrameArrival _ _ localTime => decide (localTime < longestSuperframe)
  | .selectFall => true
  | .write => true
  | .read => true
  | .invalidTransactionKind => true
  | .readCompletion => true
  | .readEndedEarly => true
  | .linkSettings _ _ => true
  | .neighbourEnrol _ _ _ _ => true
  | .neighbourRetire _ => true
  | .neighbourConfirm _ => true
  | .neighbourQuery _ _ => true
  | .lookup _ => true
  | .findFree _ _ => true
  | .entryWrite _ _ => true
  | .entryPlace _ => true
  | .entryRead _ => true
  | .entryState _ _ => true
  | .tableClear _ => true
  | .maskSet _ _ _ _ => true
  | .maskSelect _ => true
  | .counters _ => true
  | .slotLength _ => true
  | .mapRead _ => true
  | .mapSwitch => true
  | .scheduleStart => true
  | .scheduleStop => true
  | .timingSet _ => true
  | .scanSet _ _ _ _ _ => true
  | .scanStart => true
  | .scanHalt => true
  | .identify _ _ => true
  | .status => true
  | .restartWarm => true
  | .restartCold => true
  | .powerOn => true
  | .reset => true
  | .coldStartCompletion => true
  | .supplyLowAssertion => true
  | .supplyLowDeassertion => true
  | .slotStart => true
  | .bodyStart => true
  | .burstEnd => true
  | .beaconEnd => true
  | .quietCode _ => true
  | .tailStart => true
  | .rxFrameArrival _ _ => true
  | .acksetArrival _ _ => true
  | .slotEnd => true
  | .superframeBoundary => true
  | .acksetEnd => true

end Sys2Proof
end

