-- ==== Sys2Proof/Safety.lean ====
section
/-! DEFINITION. The terms of the statements: an answered request, which commands are requests, and the laws that the spec
says the part obeys at all times. -/

namespace Sys2Proof.Machine

open Sys2Proof

/-! ## Requests -/

/-- A WRITE was taken while READY and its record is being taken in: the state in which a write completion can come (R154). -/
abbrev State.accepting (s : State) : Prop := s.link.phase = .writing

/-- The state after a request is answered: its reply waits, and the rest of the transaction has no effect (R156, R157). -/
def State.answered (s : State) (kind : Byte) (code : ResultCode) (body : ReplyBody) : State :=
  { s with link := { s.link with phase := .spent, reply := some { kind := some kind, code := code, body := body } } }

/-- The request kind of a command, for the commands that are the write completion of a well-formed record (R175). -/
def requestKind : Instr → Option Byte
  | .linkSettings _ _ => some 0x01
  | .neighbourEnrol _ _ _ _ => some 0x02
  | .neighbourRetire _ => some 0x03
  | .neighbourConfirm _ => some 0x04
  | .neighbourQuery _ _ => some 0x05
  | .lookup _ => some 0x06
  | .find _ _ _ => some 0x07
  | .findFree _ _ => some 0x07
  | .entryWrite _ _ => some 0x08
  | .entryPlace _ => some 0x09
  | .entryRead _ => some 0x0A
  | .entryState _ _ => some 0x0B
  | .tableClear _ => some 0x0C
  | .maskSet _ _ _ _ => some 0x0D
  | .maskSelect _ => some 0x0E
  | .frameSend _ _ _ _ => some 0x0F
  | .counters _ => some 0x10
  | .slotLength _ => some 0x11
  | .mapWrite _ _ _ _ _ => some 0x12
  | .mapRead _ => some 0x13
  | .mapSwitch => some 0x14
  | .scheduleStart => some 0x15
  | .scheduleStop => some 0x16
  | .timingSet _ => some 0x17
  | .scanSet _ _ _ _ _ => some 0x18
  | .scanStart => some 0x19
  | .scanHalt => some 0x1A
  | .identify _ _ => some 0x1B
  | .status => some 0x1C
  | .restartWarm => some 0x1D
  | .restartCold => some 0x1D
  | .restartRange _ => some 0x1D
  | .malformedRecord _ _ _ => none
  | .selectFall => none
  | .write => none
  | .read => none
  | .invalidTransactionKind => none
  | .readCompletion => none
  | .readEndedEarly => none
  | .powerOn => none
  | .reset => none
  | .coldStartCompletion => none
  | .supplyLowAssertion => none
  | .supplyLowDeassertion => none
  | .slotStart => none
  | .bodyStart => none
  | .burstEnd => none
  | .beaconEnd => none
  | .quietCode _ => none
  | .tailStart => none
  | .rxFrameArrival _ _ => none
  | .acksetArrival _ _ => none
  | .dwellFrameArrival _ _ _ => none
  | .slotEnd => none
  | .superframeBoundary => none
  | .acksetEnd => none

/-! ## Laws of the state -/

/-- The page memory keeps its canonical form. -/
def MemoryLaw (s : State) : Prop := Memory.wf s.store.mem = true

/-- The source that posts a notice with this content (R158). -/
def NoticeContent.source : NoticeContent → Source
  | .link n _ _ _ _ _ _ => .link n
  | .scanner _ _ _ _ _ _ _ _ _ _ _ _ => .scanner
  | .scheduler _ _ _ _ _ => .scheduler
  | .supply _ _ _ _ _ => .supply
  | .start _ _ _ _ => .start

/-- The pending set holds at most one notice per source; each notice's content is of its source, and its change count lies in
1..255 (R34, R157, R158). -/
def NoticeLaw (s : State) : Prop :=
  (s.link.notices.map (·.source)).Nodup
    ∧ ∀ n ∈ s.link.notices, n.content.source = n.source ∧ 1 ≤ n.changes ∧ n.changes ≤ 255

/-- While a record is taken in, and while a MAP SWITCH is staged, no reply waits; a switch is staged only while RUNNING; and
the item that a READ offers is still there, its carry within 255 and without rescue counts until a posting (R125, R154, R156, R159, R161). No transaction runs during a
start (R172). -/
def PortLaw (s : State) : Prop :=
  (s.link.phase = .writing → s.link.staged = false ∧ s.link.reply = none)
    ∧ (s.link.staged = true → s.link.reply = none ∧ s.sched.isRunning = true)
    ∧ (s.part.starting ≠ none → s.link.phase = .none)
    ∧ (∀ item rec c, s.link.phase = .reading item rec c →
        c.postings ≤ 255 ∧ (c.postings = 0 → c.rescue = none) ∧ (item = .reply → s.link.reply ≠ none)
          ∧ (∀ src, item = .notice src → s.isPending src = true)
          ∧ (∀ h, item = .frame h → s.store.delivery.head? = some h))

/-- The two laws of the path table (R39). -/
def PathLaw (s : State) : Prop :=
  ∀ i r, s.entry i = some r →
    (∀ n, r.action = .forward n →
      (s.nbr n).state ≠ .vacant ∧ (r.state = .live → (s.nbr n).state = .up) ∧ (r.state = .parked → (s.nbr n).state ≠ .up))
      ∧ (r.state = .parked → ∃ n, r.action = .forward n)

/-- The pages that frame records in use hold, record by record. -/
def FrameStore.pagesInUse (st : FrameStore) : List Nat :=
  st.frames.toList.flatMap fun f => match f with | none => [] | some f => f.pages

/-- Every page is free or held by exactly one frame record, and a record holds ceil(length/96) pages (R62, R65). -/
def PageLaw (s : State) : Prop :=
  (s.store.pagesInUse ++ s.store.pool).Perm (List.range 160)
    ∧ ∀ h f, s.frame h = some f → f.pages.length = pagesFor f.len

/-- A record's fields while it stands in neighbour `n`'s transmit queue (R63, R67). -/
def Queued (n : NbrIdx) (f : FrameRec) : Prop :=
  f.place = .queue n ∧ f.unrouted = none ∧ f.hops ≠ 0 ∧ f.seq ≠ none ∧ ∃ r, f.retries = some r ∧ r ≤ 15

/-- A record's fields while it stands in the delivery queue (R63, R70). -/
def Delivered (f : FrameRec) : Prop := f.place = .delivery ∧ f.unrouted ≠ none ∧ f.seq = none ∧ f.retries = none

/-- The laws of the queues: every record in use is in exactly one place and no queue holds it twice; a neighbour that is
VACANT, SEEKING or LOST has an empty queue, and no queue holds more than 32 frames; an in-flight set is the head of its
neighbour's queue, 1..8 frames with their sequences (R63, R66, R67, R99, R101). -/
def StoreLaw (s : State) : Prop :=
  (∀ n h, h ∈ s.queue n → ∃ f, s.frame h = some f ∧ Queued n f)
    ∧ (∀ h, h ∈ s.store.delivery → ∃ f, s.frame h = some f ∧ Delivered f)
    ∧ (∀ h f, s.frame h = some f → h ∈ s.store.delivery ∨ ∃ n, h ∈ s.queue n)
    ∧ (∀ n, (s.queue n).Nodup ∧ (s.queue n).length ≤ 32)
    ∧ s.store.delivery.Nodup
    ∧ (∀ n, (s.nbr n).state.heard = false → s.queue n = [])
    ∧ (∀ h f, s.frame h = some f → 1 ≤ f.len ∧ f.len ≤ 1440 ∧ f.dest ≠ 0 ∧ f.dest ≠ 4095)
    ∧ (∀ ctx set, s.radio.tx = some ctx → ctx.content = .frames set →
        ∃ n, ctx.nbr = some n ∧ set.map (·.1) <+: s.queue n ∧ 1 ≤ set.length ∧ set.length ≤ 8
          ∧ ∀ hq ∈ set, ∃ f, s.frame hq.1 = some f ∧ f.seq = some hq.2)

/-- The laws of the neighbour table: a VACANT record is as a cold start leaves it; a record in UP, WEAK or HELD has sector,
epoch and accumulator; no two non-VACANT records share a node id and none has the part's own (R16, R17, R30, R168). -/
def NeighbourLaw (s : State) : Prop :=
  ∀ n, ((s.nbr n).state = .vacant → s.nbr n = Nbr.vacant)
    ∧ ((s.nbr n).state.heard = true → (s.nbr n).sector ≠ none ∧ (s.nbr n).epoch ≠ none ∧ (s.nbr n).acc ≠ none)
    ∧ ((s.nbr n).state ≠ .vacant → ∃ id, (s.nbr n).nodeId = some id ∧ 1 ≤ id ∧ id ≤ 4094
        ∧ (∀ m, m ≠ n → (s.nbr m).nodeId ≠ some id) ∧ ∀ i, s.part.identity = some i → i.nodeId ≠ id)

/-- Every accumulator lies in −2048..6128 and every sector margin in −128..383 (R4, R6). -/
def MarginLaw (s : State) : Prop :=
  ∀ n, (∀ a, (s.nbr n).acc = some a → -2048 ≤ a ∧ a ≤ 6128)
    ∧ ∀ sec x, (s.nbr n).margins.look sec = some x → -128 ≤ x ∧ x ≤ 383

/-- The window law: the seen set lies within the 32 sequences that end at the highest, ascending from the oldest without
duplicates, and holds the highest; with no highest it is empty (R82). -/
def WindowLaw (s : State) : Prop :=
  ∀ n, match (s.nbr n).high with
    | none => (s.nbr n).seen = []
    | some h => h ∈ (s.nbr n).seen ∧ (∀ q ∈ (s.nbr n).seen, behind h q ≤ 31)
        ∧ (s.nbr n).seen.Pairwise fun a b => behind h b < behind h a

/-- A set of link settings within the ranges of R13. -/
def LinkSettings.InRange (c : LinkSettings) : Prop :=
  c.k ≤ 6 ∧ -128 ≤ c.tF ∧ c.tF < c.tR ∧ c.tR ≤ 383 ∧ (1 ≤ c.wF ∧ c.wF ≤ 16) ∧ (1 ≤ c.wR ∧ c.wR ≤ 16)
    ∧ (1 ≤ c.missLimit ∧ c.missLimit ≤ 64) ∧ -128 ≤ c.t1 ∧ c.t1 < c.t2 ∧ c.t2 < c.t3 ∧ c.t3 ≤ 383 ∧ c.hyst ≤ 127
    ∧ c.retryLimit ≤ 15 ∧ (1 ≤ c.acqLimit ∧ c.acqLimit ≤ 255) ∧ (1 ≤ c.queueLimit ∧ c.queueLimit ≤ 32)

/-- The link settings lie within their ranges (R13). -/
def SettingsLaw (s : State) : Prop := s.mon.settings.InRange

/-- IDENTITY is present exactly while the identity is absent, SUPPLY while SUPPLY-LOW is asserted (but for a start in progress),
and without a sync neighbour no measurement is pending and DRIFT is absent (R119, R130, R167). -/
def HoldLaw (s : State) : Prop :=
  s.sched.holds.identity = s.part.identity.isNone
    ∧ (s.part.starting = none → s.sched.holds.supply = s.part.supplyLow)
    ∧ (s.sched.sync = none → s.sched.pendingD = none ∧ s.sched.holds.drift = false)
    ∧ (∀ i, s.part.identity = some i → 1 ≤ i.nodeId ∧ i.nodeId ≤ 4094)

/-- Every code of either map is legal, the active map satisfies its check while RUNNING, and the slot length is a multiple of
50 in 250..4000 (R116, R120, R121). -/
def MapLaw (s : State) : Prop :=
  (∀ m i, (slotKindOf ((s.sched.maps.look m).codes.look i)).isSome = true)
    ∧ (s.sched.isRunning = true → (s.sched.maps.look s.sched.active).sum = 65535)
    ∧ 250 ≤ s.sched.slotLen ∧ s.sched.slotLen ≤ 4000 ∧ s.sched.slotLen % 50 = 0

/-- No correction exceeds 25 µs in magnitude, and only slot 31 has one; only slot 31 can see the boundary taken (R115, R132). -/
def CorrectionLaw (s : State) : Prop :=
  ∀ o, s.sched.openSlot = some o → o.corr.natAbs ≤ 25 ∧ (o.index ≠ 31 → o.corr = 0 ∧ o.boundaryTaken = false)

/-- The front end and its contexts: without an open slot nothing is selected, sent or heard; a context belongs to an open slot
of its kind; TXON is asserted exactly while something is on the air, and never with RXON; an ACKSET or a BEACON on the air is at
tier 0 (R9, R78, R99, R103, R115, R117, R141). -/
def FrontEndLaw (s : State) : Prop :=
  (s.sched.openSlot = none → s.radio = Radio.off ∧ ∀ d, s.scan.state ≠ .dwelling d)
    ∧ ∀ o, s.sched.openSlot = some o →
      (s.radio.rx ≠ none → ∃ n, o.kind = .rx n)
        ∧ (∀ ctx, s.radio.tx = some ctx → (∃ n, o.kind = .tx n) ∧ (ctx.phase = .burst → s.radio.rxon = false)
            ∧ (o.part = .guard → ctx.phase = .burst))
        ∧ (s.radio.beacon ≠ none → ∃ sec, o.kind = .beacon sec)
        ∧ (∀ sec, o.kind = .beacon sec → s.radio.rxon = false)
        ∧ (∀ d, s.scan.state = .dwelling d → o.kind = .scan)
        ∧ (o.part = .guard → s.radio.onAir = none)
        ∧ s.radio.txon = s.radio.onAir.isSome
        ∧ (s.radio.txon = true → s.radio.rxon = false)
        ∧ (∀ air, s.radio.onAir = some air → air.kind ≠ .burst → air.tier = 0)

/-- The scanner: WAITING only in STEP mode; PAUSED only while the SCANNER notice is pending, and DWELLING only while it is
not; a dwell keeps at most 16 beacons, none that it did not count (R137, R140, R141, R143). -/
def ScannerLaw (s : State) : Prop :=
  (∀ a b, s.scan.state = .waiting a b → s.scan.settings.mode = .step)
    ∧ (∀ a, s.scan.state = .paused a → s.isPending .scanner = true)
    ∧ (∀ d, s.scan.state = .dwelling d →
        s.isPending .scanner = false ∧ d.beacons.length ≤ 16 ∧ d.beacons.length ≤ d.heard ∧ d.heard ≤ 255
          ∧ d.failed ≤ 255 ∧ d.other ≤ 255)

/-- Every counter lies within its width: 65535 for the counters of R33, R44, R72 and R135, 255 for runs and ages (R16). -/
def CounterLaw (s : State) : Prop :=
  (∀ i r, s.entry i = some r → r.hits ≤ 65535)
    ∧ (∀ n, (s.nbr n).fade ≤ 255 ∧ (s.nbr n).good ≤ 255 ∧ (s.nbr n).miss ≤ 255 ∧ (s.nbr n).age ≤ 255
        ∧ (s.nbr n).counters.sent ≤ 65535 ∧ (s.nbr n).counters.acked ≤ 65535 ∧ (s.nbr n).counters.retries ≤ 65535
        ∧ (s.nbr n).counters.received ≤ 65535 ∧ (s.nbr n).counters.duplicates ≤ 65535
        ∧ (s.nbr n).counters.stale ≤ 65535 ∧ (s.nbr n).counters.refused ≤ 65535)
    ∧ (s.store.discards.retry ≤ 65535 ∧ s.store.discards.airtime ≤ 65535 ∧ s.store.discards.hops ≤ 65535
        ∧ s.store.discards.reflect ≤ 65535 ∧ s.store.discards.queue ≤ 65535 ∧ s.store.discards.noroute ≤ 65535
        ∧ s.store.discards.retired ≤ 65535 ∧ s.store.discards.action ≤ 65535)
    ∧ s.store.checkFail ≤ 65535 ∧ s.store.foreign ≤ 65535 ∧ s.scan.ignored ≤ 65535

/-- All the laws together. -/
def Lawful (s : State) : Prop :=
  MemoryLaw s ∧ NoticeLaw s ∧ PortLaw s ∧ PathLaw s ∧ PageLaw s ∧ StoreLaw s ∧ NeighbourLaw s ∧ MarginLaw s
    ∧ WindowLaw s ∧ SettingsLaw s ∧ HoldLaw s ∧ MapLaw s ∧ CorrectionLaw s ∧ FrontEndLaw s ∧ ScannerLaw s ∧ CounterLaw s

end Sys2Proof.Machine
end

