-- ==== Sys2Proof/Certificates/Slice0/Obligations.lean ====
section
/-! DEFINITION. The statements for the provers. Each docstring names the rules of spec/ that the statement formalises; a choice
of the model's is named with its log entry. -/

open Sys2Proof Sys2Proof.Machine

/-! ## The queue of commands -/

/-- One step is the front command carried out with the queue's rest; on an empty queue the block idles (log 16, the model's
choice). -/
def Obligations.StepRunsTheFrontCommand : Prop :=
  (∀ (c : Instr) (rest : List Instr) (s : State), step { s with pending := c :: rest } = exec c { s with pending := rest })
    ∧ ∀ s : State, s.pending = [] → step s = .next s

/-- No command stops the part, and none changes the queue of commands: every refusal the spec describes is a reply, an idle
slot, a counted drop or an ignored event (R72, R98, R157). -/
def Obligations.EveryCommandCompletesAndKeepsTheQueue : Prop :=
  ∀ (c : Instr) (s : State), ∃ t, exec c s = .next t ∧ t.pending = s.pending

/-! ## Requests in general (09) -/

/-- Every request taken is answered by one reply of its kind in the event that takes it, but for two: a MAP SWITCH while RUNNING is
staged, stays in service, and changes nothing else; RESTART COLD begins a start (R125, R156, R157, R172). A request whose WRITE was
not accepted is lost: nothing changes (R154; that the event is offered at all is log 1). -/
def Obligations.OneReplyPerAcceptedRequest : Prop :=
  (∀ (c : Instr) (s t : State) (k : Byte), requestKind c = some k → s.accepting → exec c s = .next t →
      let staged : Prop := c = .mapSwitch ∧ s.sched.isRunning = true
      let cold : Prop := c = .restartCold ∨ c = .restartRange 0
      (staged → t = { s with link := { s.link with phase := .spent, staged := true } })
        ∧ (cold → t.part.starting = some .coldRequest ∧ t.link.reply = none)
        ∧ (¬ staged → ¬ cold →
            t.link.phase = .spent ∧ ∃ code body, t.link.reply = some { kind := some k, code := code, body := body }))
    ∧ ∀ (c : Instr) (s : State), (requestKind c ≠ none ∨ ∃ kind len taken, c = .malformedRecord kind len taken) →
      s.link.phase ≠ .writing → exec c s = .next s

/-- A reply FORMAT, RANGE, STATE, FULL or MAPFAULT reports a request that changed nothing: the part is as it was, but for the
reply that waits (R155, R157, and the owners' rules). -/
def Obligations.RefusedRequestsChangeNothing : Prop :=
  ∀ (c : Instr) (s t : State) (r : Reply),
    (requestKind c ≠ none ∨ ∃ kind len taken, c = .malformedRecord kind len taken) → s.accepting → s.link.reply = none →
    exec c s = .next t → t.link.reply = some r →
    (r.code = .format ∨ r.code = .range ∨ r.code = .state ∨ r.code = .full ∨ r.code = .mapfault) →
    t = { s with link := { s.link with phase := .spent, reply := some r } }

/-! ## Transactions (09) -/

/-- The fall of SELECT forms the status byte: READY 7, REPLY 6, NOTICE 5, FRAME 4, ERROR 3, the rest 0 (R152, R175). A READ that
was still open ended early when SELECT rose (R162; log 2). While a start is in progress no transaction is taken (R172; of the
start of RESTART COLD by inference, log 20). Then the first byte, WRITE 3A, READ C5 or neither (R175): a status byte that
carried ERROR clears the error flag, and after that a WRITE while not READY, and a byte that is neither, set it and end the
transaction's effect; a WRITE while READY begins to take in a record (R153, R154). Outside a transaction's first byte these
events change nothing (log 1). The part sends the status byte first, of a READ the offered record from the second byte on, and
otherwise filler 00; outside a transaction it drives nothing (R151, R159, R175). -/
def Obligations.TransactionsBeginWithTheStatusByte : Prop :=
  (decodeFirstByte 0x3A = .write ∧ decodeFirstByte 0xC5 = .read
      ∧ ∀ b : Byte, b ≠ 0x3A → b ≠ 0xC5 → decodeFirstByte b = .invalidTransactionKind)
    ∧ (∀ (k : Nat) (b : Byte) (item : Item) (record : List Byte) (c : Carry),
        Phase.none.sends k = none
          ∧ (Phase.selected b).sends 0 = some b ∧ (Phase.selected b).sends (k + 1) = some 0
          ∧ Phase.writing.sends (k + 1) = some 0 ∧ Phase.spent.sends (k + 1) = some 0
          ∧ (∀ x : Byte, record[k]? = some x → (Phase.reading item record c).sends (k + 1) = some x)
          ∧ (record.length ≤ k → (Phase.reading item record c).sends (k + 1) = some 0))
    ∧ ∀ s : State,
      (s.part.starting ≠ none → exec .selectFall s = .next s)
        ∧ (s.part.starting = none → ∃ (b : Byte) (e : Bool),
            exec .selectFall s = .next { s with link := { s.link with phase := .selected b, error := e } }
              ∧ e = (match s.link.phase with | .reading _ _ _ => true | _ => s.link.error)
              ∧ b.getLsbD 7 = (!s.link.staged && s.link.reply.isNone)
              ∧ b.getLsbD 6 = s.link.reply.isSome
              ∧ b.getLsbD 5 = !s.link.notices.isEmpty
              ∧ b.getLsbD 4 = !s.store.delivery.isEmpty
              ∧ b.getLsbD 3 = e
              ∧ b.getLsbD 2 = false ∧ b.getLsbD 1 = false ∧ b.getLsbD 0 = false)
        ∧ (∀ b : Byte, s.link.phase = .selected b →
          exec .write s = .next
              (if s.link.staged = false ∧ s.link.reply = none then
                { s with link := { s.link with phase := .writing, error := !b.getLsbD 3 && s.link.error } }
              else { s with link := { s.link with phase := .spent, error := true } })
            ∧ exec .invalidTransactionKind s = .next { s with link := { s.link with phase := .spent, error := true } })
        ∧ ((∀ b : Byte, s.link.phase ≠ .selected b) →
            exec .write s = .next s ∧ exec .invalidTransactionKind s = .next s)

/-- A READ offers the reply, else the oldest notice, else the frame at the head of the delivery queue, else EMPTY, and takes a
copy of its record; the error flag is cleared as by any first byte (R153, R159). Outside a transaction's first byte READ changes
nothing, which is the model's choice (log 1). -/
def Obligations.ReadOffersByRank : Prop :=
  (∀ s : State, (∀ b : Byte, s.link.phase ≠ .selected b) → exec .read s = .next s) ∧
  ∀ (s : State) (b : Byte), s.link.phase = .selected b →
    ∃ item record,
      exec .read s = .next { s with link := { s.link with
                                                phase := .reading item record { postings := 0, rescue := none },
                                                error := !b.getLsbD 3 && s.link.error } }
        ∧ (∀ r, s.link.reply = some r → item = .reply ∧ record = r.record)
        ∧ (s.link.reply = none →
            (∀ n rest, s.link.notices = n :: rest → item = .notice n.source ∧ record = n.record)
              ∧ (s.link.notices = [] →
                  (∀ h rest, s.store.delivery = h :: rest → item = .frame h
                      ∧ ∀ f, s.frame h = some f → record = frameRecord f (s.payload f))
                    ∧ (s.store.delivery = [] → item = .empty ∧ record = [0xF0, 0x00, 0x00])))

/-- The completion of a READ consumes the offered item: the reply leaves its place; a notice leaves the set, and the SCANNER
notice makes a PAUSED scanner ARMED; a frame leaves the delivery queue with its record and pages; EMPTY consumes nothing.
Postings taken during the read return as a fresh notice at the tail (R71, R145, R160, R161). A READ that ends early consumes
nothing and sets the error flag (R162). Where no READ is open the events change nothing (log 1). -/
def Obligations.ReadsConsumeTheItemOrNothing : Prop :=
  (∀ s : State, (∀ item record c, s.link.phase ≠ .reading item record c) →
      exec .readCompletion s = .next s ∧ exec .readEndedEarly s = .next s)
    ∧ ∀ (s : State) (item : Item) (record : List Byte) (c : Carry), s.link.phase = .reading item record c →
    exec .readEndedEarly s = .next { s with link := { s.link with phase := .none, error := true } } ∧
    match item with
    | .reply => exec .readCompletion s = .next { s with link := { s.link with phase := .spent, reply := none } }
    | .empty => exec .readCompletion s = .next { s with link := { s.link with phase := .spent } }
    | .notice src =>
      ∀ pre n post, s.link.notices = pre ++ n :: post → n.source = src → (∀ m ∈ pre ++ post, m.source ≠ src) →
        exec .readCompletion s = .next
          { s with
            link := { s.link with
              phase := .spent
              notices := pre ++ post
                ++ (if c.postings = 0 then [] else [{ n with changes := c.postings, rescue := c.rescue }]) }
            scan := { s.scan with
              state := match src, s.scan.state with
                | .scanner, .paused sec => .armed sec
                | _, st => st } }
    | .frame h =>
      ∀ rest f, s.store.delivery = h :: rest → s.frame h = some f →
        exec .readCompletion s = .next
          { s with
            link := { s.link with phase := .spent }
            store := { s.store with delivery := rest, frames := s.store.frames.put h none, pool := s.store.pool ++ f.pages } }

/-- A posting for a source whose notice is not pending adds it at the tail with change count 1; for a pending one it replaces
the content in place, the change count rises by 1 up to 255, and rescue counts are added, each up to 65535 (R34, R35, R158).
Where the source's notice is the offered item of a READ in progress, the carry takes the posting in the same way (R161). Nothing
else changes. A posting to the offered notice and the completion of the READ come to the same, whichever is taken first, with
whatever the carry holds already (R161, R166). -/
def Obligations.PostingsAddOrUpdateInPlace : Prop :=
  (∀ (s : State) (src : Source) (content : NoticeContent) (rescue : Option Rescue),
    let added := fun old : Option Rescue => match old, rescue with
      | none, r => r
      | some a, none => some a
      | some a, some b => some (⟨min 65535 (a.moved + b.moved), min 65535 (a.dropped + b.dropped)⟩ : Rescue)
    let carried : Phase := match s.link.phase with
      | .reading item record c =>
        if item = .notice src then .reading item record { postings := min 255 (c.postings + 1), rescue := added c.rescue }
        else .reading item record c
      | p => p
    let posted := fun set : List Notice => { s with link := { s.link with notices := set, phase := carried } }
    ((∀ n ∈ s.link.notices, n.source ≠ src) → s.post src content rescue =
        posted (s.link.notices ++ [{ source := src, content := content, changes := 1, rescue := rescue }]))
      ∧ ∀ pre n post, s.link.notices = pre ++ n :: post → n.source = src → (∀ m ∈ pre ++ post, m.source ≠ src) →
        s.post src content rescue = posted (pre ++
          { n with content := content, changes := min 255 (n.changes + 1), rescue := added n.rescue } :: post))
    ∧ ∀ (s t u : State) (src : Source) (content : NoticeContent) (rescue : Option Rescue) (record : List Byte) (c : Carry),
      (s.link.notices.map (·.source)).Nodup → s.isPending src = true →
      s.link.phase = .reading (.notice src) record c → (c.postings = 0 → c.rescue = none) →
      exec .readCompletion (s.post src content rescue) = .next t → exec .readCompletion s = .next u →
      t = u.post src content rescue

/-- A malformed record is answered FORMAT with its kind and length as received, and the reason by the first check that fails, in
the order KIND, LENGTH, SHORT, the lengths allowed being those of the table of R175; nothing else changes (R155). A record that
was cut short before its kind was complete is SHORT, with kind and length absent (log 14). -/
def Obligations.MalformedRecordsAreAnsweredFormat : Prop :=
  ∀ (s : State) (kind : Option Byte) (len : Option Half) (taken : Half) (why : Malformed), s.accepting →
    let fixed : List (Nat × Nat) :=
      [(0x01, 19), (0x02, 5), (0x03, 1), (0x04, 1), (0x05, 2), (0x06, 4), (0x07, 6), (0x08, 9), (0x09, 7), (0x0A, 2),
        (0x0B, 3), (0x0C, 1), (0x0D, 5), (0x0E, 1), (0x10, 1), (0x11, 2), (0x13, 1), (0x14, 0), (0x15, 0), (0x16, 0),
        (0x17, 1), (0x18, 5), (0x19, 0), (0x1A, 0), (0x1B, 3), (0x1C, 0), (0x1D, 1)]
    let allowed := fun k l : Nat => (k, l) ∈ fixed ∨ (k = 0x0F ∧ 5 ≤ l ∧ l ≤ 1444) ∨ (k = 0x12 ∧ 7 ≤ l ∧ l ≤ 69 ∧ l % 2 = 1)
    ((why = .kind ∧ ∃ k, kind = some k ∧ (k.toNat = 0 ∨ 0x1D < k.toNat))
      ∨ (why = .length ∧ ∃ k l, kind = some k ∧ 1 ≤ k.toNat ∧ k.toNat ≤ 0x1D ∧ len = some l ∧ ¬ allowed k.toNat l.toNat)
      ∨ (why = .short ∧ ∃ k, kind = some k ∧ 1 ≤ k.toNat ∧ k.toNat ≤ 0x1D
          ∧ (len = none ∨ ∃ l, len = some l ∧ allowed k.toNat l.toNat ∧ taken.toNat < l.toNat))
      ∨ (why = .short ∧ kind = none ∧ len = none)) →
    exec (.malformedRecord kind len taken) s = .next { s with link := { s.link with
      phase := .spent
      reply := some { kind := kind, code := .format, body := .format (len.map BitVec.toNat) why taken.toNat } } }

/-- Decode and encode agree: the record of a well-formed request, taken in whole, is read as that request, with every field at
every value (R154, R155, R175). -/
def Obligations.RecordsDecodeToTheirRequests : Prop :=
  ∀ (i : Instr) (bytes : List Byte), i.wf = true → encodeRecord i = some bytes → decodeRecord bytes = some i

/-! ## Link monitor (01, 02) -/

/-- LINK SETTINGS reads the settings with the write flag clear; with it set, checks the thresholds as carried and takes all eleven
settings together, clamping the tuning values and naming those clamped; and is refused RANGE otherwise, changing nothing (R13,
R175). R13 gives the names no order; that they stand in the order of its table is log 27, the model's choice. -/
def Obligations.LinkSettingsTakesAllOrNone : Prop :=
  ∀ (s : State) (wr : Byte) (c : CarriedSettings), s.accepting →
    let inRange := fun x : Int => -128 ≤ x ∧ x ≤ 383
    let legal : Prop := inRange c.tF.toInt ∧ inRange c.tR.toInt ∧ c.tF.toInt < c.tR.toInt ∧ inRange c.t1.toInt
      ∧ inRange c.t2.toInt ∧ inRange c.t3.toInt ∧ c.t1.toInt < c.t2.toInt ∧ c.t2.toInt < c.t3.toInt
    let taken : LinkSettings :=
      { k := min 6 c.k.toNat, tF := c.tF.toInt, tR := c.tR.toInt, wF := max 1 (min 16 c.wF.toNat),
        wR := max 1 (min 16 c.wR.toNat), missLimit := max 1 (min 64 c.missLimit.toNat), t1 := c.t1.toInt,
        t2 := c.t2.toInt, t3 := c.t3.toInt, hyst := min 127 c.hyst.toNat, retryLimit := min 15 c.retryLimit.toNat,
        acqLimit := max 1 c.acqLimit.toNat, queueLimit := max 1 (min 32 c.queueLimit.toNat) }
    let clamped : List SettingName :=
      [(.k, c.k.toNat, taken.k), (.wF, c.wF.toNat, taken.wF), (.wR, c.wR.toNat, taken.wR),
        (.missLimit, c.missLimit.toNat, taken.missLimit), (.hyst, c.hyst.toNat, taken.hyst),
        (.retryLimit, c.retryLimit.toNat, taken.retryLimit), (.acqLimit, c.acqLimit.toNat, taken.acqLimit),
        (.queueLimit, c.queueLimit.toNat, taken.queueLimit)].filterMap
          fun (x : SettingName × Nat × Nat) => if x.2.1 = x.2.2 then none else some x.1
    (wr = 0 → exec (.linkSettings wr c) s = .next (s.answered 0x01 .ok (.settings s.mon.settings [])))
      ∧ (wr = 1 → legal → exec (.linkSettings wr c) s =
          .next ({ s with mon := { s.mon with settings := taken } }.answered 0x01 .ok (.settings taken clamped)))
      ∧ (wr = 1 → ¬ legal → exec (.linkSettings wr c) s = .next (s.answered 0x01 .range (.settings s.mon.settings [])))
      ∧ (wr ≠ 0 → wr ≠ 1 → exec (.linkSettings wr c) s = .next (s.answered 0x01 .range (.settings s.mon.settings [])))

/-- Who changes what a warm restart keeps: the settings change by LINK SETTINGS, the noise floors at a slot end, the identity by
IDENTIFY, the maps by MAP WRITE, the slot length by SLOT LENGTH, the mask profiles by MASK SET, the active profile by MASK
SELECT, the sync neighbour by TIMING SET and RETIRE, the scanner's settings by SCAN SET; and all of them at the completion of a
cold start; by no other command (R2, R13, R15, R41, R116, R117, R122, R130, R135, R167). -/
def Obligations.OnlyOwnersChangeKeptState : Prop :=
  ∀ (c : Instr) (s t : State), exec c s = .next t → c ≠ .coldStartCompletion →
    (t.mon.settings ≠ s.mon.settings → requestKind c = some 0x01)
      ∧ (t.mon.floors ≠ s.mon.floors → c = .slotEnd)
      ∧ (t.part.identity ≠ s.part.identity → requestKind c = some 0x1B)
      ∧ (t.sched.maps ≠ s.sched.maps → requestKind c = some 0x12)
      ∧ (t.sched.active ≠ s.sched.active → c = .mapSwitch ∨ c = .superframeBoundary)
      ∧ (t.sched.slotLen ≠ s.sched.slotLen → requestKind c = some 0x11)
      ∧ ((t.path.maskA ≠ s.path.maskA ∨ t.path.maskB ≠ s.path.maskB) → requestKind c = some 0x0D)
      ∧ (t.path.active ≠ s.path.active → requestKind c = some 0x0E)
      ∧ (t.sched.sync ≠ s.sched.sync → requestKind c = some 0x17 ∨ requestKind c = some 0x03)
      ∧ (t.scan.settings ≠ s.scan.settings → requestKind c = some 0x18)

/-- The smoothing update of R6, whole: an absent accumulator or a set reseed mark takes 16·s; otherwise the step is
floor(D / 2^k), it lies between 0 and D or between D and −1, the result stays in −2048..6128, does not move for D below 2^k
and is 16·s for k = 0. A sample clears the mark, a miss leaves accumulator and mark. -/
def Obligations.SmoothingUpdate : Prop :=
  (∀ (k : Nat) (x : Int) (mark : Bool), smooth k none mark x = 16 * x)
    ∧ (∀ (k : Nat) (a x : Int), smooth k (some a) true x = 16 * x)
    ∧ (∀ (k : Nat) (a x : Int), ∃ q : Int, smooth k (some a) false x = a + q
        ∧ q * 2 ^ k ≤ 16 * x - a ∧ 16 * x - a < (q + 1) * 2 ^ k
        ∧ (0 ≤ 16 * x - a → 0 ≤ q ∧ q ≤ 16 * x - a)
        ∧ (16 * x - a < 0 → 16 * x - a ≤ q ∧ q ≤ -1)
        ∧ (0 ≤ 16 * x - a → 16 * x - a < 2 ^ k → q = 0)
        ∧ (-2048 ≤ a → a ≤ 6128 → -128 ≤ x → x ≤ 383 → -2048 ≤ a + q ∧ a + q ≤ 6128))
    ∧ (∀ (acc : Option Int) (mark : Bool) (x : Int), smooth 0 acc mark x = 16 * x)
    ∧ (∀ (r : Nbr) (c : LinkSettings) (x : Int),
        (r.sample c x).acc = some (smooth c.k r.acc r.reseed x) ∧ (r.sample c x).reseed = false)
    ∧ ∀ r : Nbr, r.missed.acc = r.acc ∧ r.missed.reseed = r.reseed

/-- Samples, margins, tiers and airtimes: the clamped difference (R3), the floor of A/16 in −128..383 (R7), the count of
thresholds at or below the margin lowered to the cap (R8), the byte costs (R9), the airtimes (R10), the burst airtime (R11) and
a HOLD frame that fits every body (R12). -/
def Obligations.TiersAndAirtimes : Prop :=
  (∀ c f : Code, sampleOf c f = max (-128) (min 383 ((c.toNat : Int) - f.toNat)))
    ∧ (∀ a : Int, 16 * marginOf a ≤ a ∧ a < 16 * marginOf a + 16
        ∧ (-2048 ≤ a → a ≤ 6128 → -128 ≤ marginOf a ∧ marginOf a ≤ 383))
    ∧ (∀ (c : LinkSettings) (cap : Fin 4) (m : Int), c.t1 < c.t2 → c.t2 < c.t3 →
        (tierOf c cap (some m)).val =
          min cap.val (if m < c.t1 then 0 else if m < c.t2 then 1 else if m < c.t3 then 2 else 3))
    ∧ (∀ (c : LinkSettings) (cap : Fin 4), tierOf c cap none = 0)
    ∧ (∀ t : Fin 4, byteCost t * 2 ^ t.val = 8)
    ∧ (∀ (b : Nat) (len : Nat) (lens : List Nat),
        burstAirtime b (len :: lens) = ((len :: lens).map fun l => 320 + (24 + l) * b).sum + 128 * lens.length)
    ∧ ∀ (t : Fin 4) (slotLen : Nat), 250 ≤ slotLen → airtime (byteCost t) 0 ≤ 8 * (slotLen - 120)

/-- An observation at the link monitor, where the path laws hold: discarded unless the neighbour is UP,
WEAK or HELD; else the accumulator and the runs of R19 or R20, and at most one transition, in the order of R21, which zeroes the
runs and has the effects of R22, with the cause MISS, FADE or RECOVER of R34: the parking, the rescue, the LOSS trigger and the
LINK notice that ParkingFollowsTheLinkState states of every change. The other neighbours' records change at most in their TX
sequence counters, by a rescue. -/
def Obligations.ObservationsMoveTheLinkState : Prop :=
  ∀ (s : State) (n : NbrIdx) (sample : Option Int), PathLaw s →
    let r := s.nbr n
    let c := s.mon.settings
    let t := s.observe n sample
    (r.state.heard = false → t = s)
      ∧ (r.state.heard = true →
          let acc := match sample with
            | some x => some (smooth c.k r.acc r.reseed x)
            | none => r.acc
          let mark := match sample with
            | some _ => false
            | none => r.reseed
          let fade := match sample with
            | some x => if smooth c.k r.acc r.reseed x / 16 < c.tF then min 255 (r.fade + 1) else 0
            | none => min 255 (r.fade + 1)
          let good := match sample with
            | some x => if c.tR ≤ smooth c.k r.acc r.reseed x / 16 then min 255 (r.good + 1) else 0
            | none => 0
          let miss := match sample with
            | some _ => 0
            | none => min 255 (r.miss + 1)
          let observed : State := { s with mon := { s.mon with
            nbrs := s.mon.nbrs.put n { r with acc := acc, reseed := mark, fade := fade, good := good, miss := miss } } }
          let moved := fun (st : LinkState) (cause : LinkCause) =>
            t = observed.changeState n st cause
              ∧ t.nbr n = { r with acc := acc, reseed := mark, state := st, fade := 0, good := 0, miss := 0 }
          (c.missLimit ≤ miss → moved .lost .miss)
            ∧ (miss < c.missLimit → r.state = .up → c.wF ≤ fade → moved .weak .fade)
            ∧ (miss < c.missLimit → r.state = .weak → c.wR ≤ good → moved .up .recover)
            ∧ (miss < c.missLimit → (r.state = .up → fade < c.wF) → (r.state = .weak → good < c.wR) → t = observed)
            ∧ ∀ m, m ≠ n → t.nbr m = { s.nbr m with txSeq := (t.nbr m).txSeq })

/-- Every change of a neighbour's state, into LOST too: the runs are zeroed; exactly its LIVE FORWARD entries become PARKED as it
leaves UP, and exactly its PARKED entries become LIVE as it enters UP, with key, action and hit count of every entry, the order
of entries and the last-match index kept (R22, R58, R59); then, into LOST, the rescue finds the table so parked, and the LOSS
trigger follows where LOSS is among the trigger sources (R22, R95, R138); last the LINK notice is posted with the new state, the
cause, and after a rescue its counts (R34, R35, R97); that it carries the margin without A is log 32. Nothing else changes. -/
def Obligations.ParkingFollowsTheLinkState : Prop :=
  ∀ (s : State) (n : NbrIdx) (new : LinkState) (cause : LinkCause),
    let r := s.nbr n
    let t := s.changeState n new cause
    let parked := fun e : Entry => match e with
      | none => none
      | some q => some { q with state :=
          if r.state = .up ∧ new ≠ .up ∧ q.state = .live ∧ q.action = .forward n then .parked
          else if new = .up ∧ r.state ≠ .up ∧ q.state = .parked ∧ q.action = .forward n then .live
          else q.state }
    ∃ entries : Tab Entry 256, (∀ i, entries.look i = parked (s.entry i)) ∧
      let changed : State :=
        { s with mon := { s.mon with nbrs := s.mon.nbrs.put n { r with state := new, fade := 0, good := 0, miss := 0 } },
                 path := { s.path with entries := entries } }
      let told := fun (u : State) (rescue : Option Rescue) =>
        u.post (.link n) (.link n r.nodeId new cause r.sector r.epoch (r.acc.map fun a => a / 16)) rescue
      (new ≠ .lost → t = told changed none)
        ∧ (new = .lost →
          let rescued := changed.rescue n
          t = told (if s.scan.settings.loss then rescued.1.trigger.1 else rescued.1) (some rescued.2))

/-- The rescue of a lost neighbour's queue, whole. From head to tail, each frame after all before it (a queue without its last
frame is rescued first): one lookup under its own key, whose winner's hit count rises, and the outcome of the table of R96 with
its discard counter; a moved frame keeps its record but for what its place gives it, on m's queue the next sequence of m's
counter and retries 0. Nothing else changes, page memory and the neighbours' counters included (R66 to R68, R70, R95, R96). So no
frame is lost unaccounted: the queue ends empty, moved is the number of its frames that still stand and dropped the rest, each
frame is released or keeps its pages, fields and record in another place, and every other frame is untouched (R95, R97). -/
def Obligations.RescueAccountsForEveryFrame : Prop :=
  (∀ (s : State) (n : NbrIdx), s.queue n = [] → s.rescue n = (s, ⟨0, 0⟩))
    ∧ (∀ (s : State) (n : NbrIdx) (pre : List Handle) (h : Handle) (f : FrameRec), s.queue n = pre ++ [h] →
      let shorter : State := { s with store := { s.store with queues := s.store.queues.put n pre } }
      let u := (shorter.rescue n).1
      let c := (shorter.rescue n).2
      u.frame h = some f →
      let asked := u.frameLookup { dest := f.dest, cls := f.cls, ing := f.ing }
      let v := asked.2
      let was := v.store.discards
      let dropped := fun counted : Discards =>
        ({ v with store := { v.store with frames := v.store.frames.put h none, pool := v.store.pool ++ f.pages,
                                          discards := counted } }, ({ c with dropped := c.dropped + 1 } : Rescue))
      let moved := fun u' : State => (u', ({ c with moved := c.moved + 1 } : Rescue))
      (asked.1 = none → s.rescue n = dropped { was with noroute := min 65535 (was.noroute + 1) })
        ∧ ∀ i r, asked.1 = some (i, r) →
          (r.action = .discard → s.rescue n = dropped { was with action := min 65535 (was.action + 1) })
            ∧ (r.action = .deliver → s.rescue n = moved
                { v with store := { v.store with
                  frames := v.store.frames.put h
                    (some { f with place := .delivery, seq := none, retries := none, unrouted := some false })
                  delivery := v.store.delivery ++ [h] } })
            ∧ ∀ m, r.action = .forward m →
              (f.ing = .nbr m → s.rescue n = dropped { was with reflect := min 65535 (was.reflect + 1) })
                ∧ (f.ing ≠ .nbr m → (v.queue m).length < v.mon.settings.queueLimit → s.rescue n = moved
                    { v with
                      mon := { v.mon with nbrs := v.mon.nbrs.put m { v.nbr m with txSeq := (v.nbr m).txSeq + 1 } }
                      store := { v.store with
                        frames := v.store.frames.put h (some { f with
                          place := .queue m, seq := some (v.nbr m).txSeq, retries := some 0, unrouted := none })
                        queues := v.store.queues.put m (v.queue m ++ [h]) } })
                ∧ (f.ing ≠ .nbr m → v.mon.settings.queueLimit ≤ (v.queue m).length →
                    s.rescue n = dropped { was with queue := min 65535 (was.queue + 1) }))
    ∧ ∀ (s : State) (n : NbrIdx), StoreLaw s →
      (∀ i r, s.entry i = some r → r.state = .live → r.action ≠ .forward n) →
      let t := (s.rescue n).1
      let c := (s.rescue n).2
      t.queue n = [] ∧ c.moved + c.dropped = (s.queue n).length
        ∧ c.moved = ((s.queue n).filter fun h => (t.frame h).isSome).length
        ∧ t.store.mem = s.store.mem
        ∧ (∀ h, h ∉ s.queue n → t.frame h = s.frame h)
        ∧ (∀ h f, h ∈ s.queue n → s.frame h = some f →
            t.frame h = none
              ∨ ∃ f', t.frame h = some f' ∧ f'.ing = f.ing ∧ f'.dest = f.dest ∧ f'.cls = f.cls ∧ f'.hops = f.hops
                  ∧ f'.len = f.len ∧ f'.pages = f.pages
                  ∧ ((f'.place = .delivery ∧ f'.unrouted = some false ∧ h ∈ t.store.delivery)
                      ∨ ∃ m, m ≠ n ∧ f'.place = .queue m ∧ f'.retries = some 0 ∧ h ∈ t.queue m ∧ f.ing ≠ .nbr m))
        ∧ (∀ m, m ≠ n → s.queue m <+: t.queue m) ∧ s.store.delivery <+: t.store.delivery

/-- NEIGHBOUR ENROL: RANGE, then STATE, then a fresh SEEKING record with an empty queue, the LINK notice and the reply (R29). -/
def Obligations.EnrolInitialisesTheRecord : Prop :=
  (∀ (s : State) (index : Byte) (nodeId : Half) (hint cap : Byte), s.accepting →
      (16 ≤ index.toNat ∨ nodeId.toNat = 0 ∨ 4094 < nodeId.toNat ∨ (hint ≠ 0xFF ∧ 6 ≤ hint.toNat)) →
      exec (.neighbourEnrol index nodeId hint cap) s = .next (s.answered 0x02 .range .empty))
    ∧ ∀ (s : State) (n : NbrIdx) (nodeId : Half) (sec : Option Sector) (cap : Byte), s.accepting →
      1 ≤ nodeId.toNat → nodeId.toNat ≤ 4094 →
      let hint : Byte := match sec with | none => 0xFF | some x => BitVec.ofNat 8 x.val
      let capNow : Fin 4 := if cap = 0xFF then 3 else ⟨min 3 cap.toNat, Nat.lt_succ_of_le (Nat.min_le_left _ _)⟩
      let command : Instr := .neighbourEnrol (BitVec.ofNat 8 n.val) nodeId hint cap
      let free : Prop := (∃ i, s.part.identity = some i ∧ i.nodeId ≠ nodeId.toNat) ∧ (s.nbr n).state = .vacant
        ∧ ∀ m, (s.nbr m).state ≠ .vacant → (s.nbr m).nodeId ≠ some nodeId.toNat
      let record : Nbr :=
        { state := .seeking, nodeId := some nodeId.toNat, sector := sec, epoch := none, acc := none, reseed := false,
          fade := 0, good := 0, miss := 0, cap := capNow, margins := Tab.all 6 none, txSeq := 0, high := none, seen := [],
          age := 0, counters := ⟨0, 0, 0, 0, 0, 0, 0⟩ }
      let enrolled : State :=
        { s with mon := { s.mon with nbrs := s.mon.nbrs.put n record },
                 store := { s.store with queues := s.store.queues.put n [] } }
      (¬ free → exec command s = .next (s.answered 0x02 .state .empty))
        ∧ (free → exec command s = .next
            ((enrolled.post (.link n) (.link n (some nodeId.toNat) .seeking .enrol sec none none) none).answered 0x02 .ok
              (.enrolled n capNow (decide (cap ≠ 0xFF ∧ 3 < cap.toNat)))))

/-- NEIGHBOUR RETIRE: RANGE for the index, STATE for a VACANT record; otherwise the entries that name the neighbour as next hop are
freed, its queue is discarded RETIRED, it is no longer the sync neighbour, its record is VACANT, its LINK notice is posted, an
open TX slot for it names it no more and, in BURST, stops sending, and the rest is untouched, of the front end too (R30, R35, R60, R69, R109, R130). That the notice carries sector,
epoch and margin as absent is log 26, and that a burst it stops releases TXON and listens for no ACKSET is log 17, both
inferences of the model's. -/
def Obligations.RetireRemovesTheNeighbour : Prop :=
  (∀ (s : State) (index : Byte), s.accepting → 16 ≤ index.toNat →
      exec (.neighbourRetire index) s = .next (s.answered 0x03 .range .empty))
    ∧ (∀ (s : State) (n : NbrIdx), s.accepting → (s.nbr n).state = .vacant →
      exec (.neighbourRetire (BitVec.ofNat 8 n.val)) s = .next (s.answered 0x03 .state .empty))
    ∧ ∀ (s : State) (n : NbrIdx), s.accepting → (s.nbr n).state ≠ .vacant → s.store.discards.retired ≤ 65535 →
      let names := fun e : Entry => match e with | none => false | some r => decide (r.action = .forward n)
      let cleared := s.sched.sync = some n
      ∃ t, exec (.neighbourRetire (BitVec.ofNat 8 n.val)) s = .next t
        ∧ t.nbr n = Nbr.vacant ∧ (∀ m, m ≠ n → t.nbr m = s.nbr m)
        ∧ t.mon.settings = s.mon.settings ∧ t.mon.floors = s.mon.floors
        ∧ (∀ i, t.entry i = if names (s.entry i) then none else s.entry i)
        ∧ t.path.lastMatch = s.path.lastMatch.filter (fun i => !names (s.entry i))
        ∧ t.path.maskA = s.path.maskA ∧ t.path.maskB = s.path.maskB ∧ t.path.active = s.path.active
        ∧ t.queue n = [] ∧ (∀ m, m ≠ n → t.queue m = s.queue m) ∧ t.store.delivery = s.store.delivery
        ∧ (∀ h, t.frame h = if h ∈ s.queue n then none else s.frame h)
        ∧ t.store.discards = { s.store.discards with
            retired := min 65535 (s.store.discards.retired + (s.queue n).length) }
        ∧ t.store.mem = s.store.mem ∧ t.store.checkFail = s.store.checkFail ∧ t.store.foreign = s.store.foreign
        ∧ (cleared → t.sched =
            { s.sched with sync := none, pendingD := none, lastD := none, holds := { s.sched.holds with drift := false } })
        ∧ (¬ cleared → t.sched = s.sched)
        ∧ t.scan = s.scan ∧ t.part = s.part ∧ t.radio.rx = s.radio.rx
        ∧ (∀ ctx, s.radio.tx = some ctx → ctx.nbr = some n →
            let named : TxCtx := { ctx with nbr := none, content := .nothing, ackset := none }
            (ctx.phase = .burst → t.radio = { s.radio with tx := some named, txon := false, onAir := none })
              ∧ (ctx.phase = .listen → t.radio = { s.radio with tx := some named }))
        ∧ ((∀ ctx, s.radio.tx = some ctx → ctx.nbr ≠ some n) → t.radio = s.radio)
        ∧ t.link = { s.link with
            phase := .spent
            notices := postInto (.link n) (.link n (s.nbr n).nodeId .vacant .retire none none none) none
              (if s.sched.sync = some n ∧ s.sched.holds.drift = true then
                postInto .scheduler (.scheduler .syncCleared false none none s.sched.count) none s.link.notices
              else s.link.notices)
            reply := some { kind := some 0x03, code := .ok,
                            body := .retired (s.path.entries.count names) (s.queue n).length } }

/-- NEIGHBOUR CONFIRM: a HELD neighbour becomes WEAK with its window cleared, its runs zeroed and its reseed mark set, and nothing
else of it changed; in any other state it is refused STATE with the state found (R31). NEIGHBOUR QUERY reports the record as it stands, every field of the table of R32, and with the clear option sets the seven
counters to 0 after that; it changes nothing else (R32, R33). -/
def Obligations.ConfirmAndQueryNeighbours : Prop :=
  ((∀ (s : State) (index : Byte), s.accepting → 16 ≤ index.toNat →
      exec (.neighbourConfirm index) s = .next (s.answered 0x04 .range .empty))
    ∧ ∀ (s : State) (n : NbrIdx), s.accepting →
      let r := s.nbr n
      let released : Nbr :=
        { r with state := .weak, high := none, seen := [], reseed := true, fade := 0, good := 0, miss := 0 }
      (r.state ≠ .held → exec (.neighbourConfirm (BitVec.ofNat 8 n.val)) s =
          .next (s.answered 0x04 .state (.linkState r.state)))
        ∧ (r.state = .held → exec (.neighbourConfirm (BitVec.ofNat 8 n.val)) s = .next
            (({ s with mon := { s.mon with nbrs := s.mon.nbrs.put n released } }.post (.link n)
                (.link n r.nodeId .weak .confirm r.sector r.epoch (r.acc.map fun a => a / 16)) none).answered
              0x04 .ok .empty)))
    ∧ (∀ (s : State) (index clear : Byte), s.accepting → (16 ≤ index.toNat ∨ 2 ≤ clear.toNat) →
      exec (.neighbourQuery index clear) s = .next (s.answered 0x05 .range .empty))
    ∧ ∀ (s : State) (n : NbrIdx) (clear : Bool), s.accepting →
      let r := s.nbr n
      let zeroed : Nbr := { r with counters := ⟨0, 0, 0, 0, 0, 0, 0⟩ }
      let after : Tab Nbr 16 := if clear then s.mon.nbrs.put n zeroed else s.mon.nbrs
      exec (.neighbourQuery (BitVec.ofNat 8 n.val) (if clear then 1 else 0)) s = .next
        ({ s with mon := { s.mon with nbrs := after } }.answered 0x05 .ok
          (.neighbour
            { state := r.state, nodeId := r.nodeId, sector := r.sector, epoch := r.epoch, acc := r.acc,
              margin := r.acc.map (fun a => a / 16), reseed := r.reseed,
              tier := tierOf s.mon.settings r.cap (r.acc.map fun a => a / 16), cap := r.cap, fade := r.fade,
              good := r.good, miss := r.miss, margins := r.margins, txSeq := r.txSeq, high := r.high, seen := r.seen,
              age := r.age, queueLen := (s.queue n).length, counters := r.counters }))

/-! ## Path table (03) -/

/-- Key comparison, whole (R42): the destinations agree in every position that the profile does not ignore, and class and ingress
are equal where they are compared; the comparison is symmetric; the default profile compares destinations alone, and one that
ignores all twelve positions no destination. -/
def Obligations.KeysMatchUnderAProfile : Prop :=
  (∀ (p : Mask) (k q : Key), p.matches k q = true ↔
      (∀ i : Nat, i < 12 → p.ignore.getLsbD i = false → k.dest.getLsbD i = q.dest.getLsbD i)
        ∧ (p.cmpClass = false ∨ k.cls = q.cls) ∧ (p.cmpIngress = false ∨ k.ing = q.ing))
    ∧ (∀ (p : Mask) (k q : Key), p.matches k q = p.matches q k)
    ∧ (∀ k q : Key, Mask.default.matches k q = true ↔ k.dest = q.dest)
    ∧ (∀ (p : Mask) (k q : Key), p.ignore = 4095 → p.cmpClass = false → p.cmpIngress = false → p.matches k q = true)
    ∧ (∀ (p : Mask) (k q : Key), p.ignore = 15 → k.dest = 208 → p.cmpClass = false → p.cmpIngress = false →
        (p.matches k q = true ↔ 208 ≤ q.dest.toNat ∧ q.dest.toNat ≤ 223))

/-- A frame lookup: the lowest LIVE entry that matches under the active profile, or none; the winner's hit count alone changes, by
1 up to 65535 (R43, R44). -/
def Obligations.FrameLookupTakesTheLowestLiveMatch : Prop :=
  ∀ (s : State) (q : Key),
    let p := match s.path.active with | .a => s.path.maskA | .b => s.path.maskB
    let claims := fun (i : EntryIdx) (r : Route) => s.entry i = some r ∧ r.state = .live ∧ p.matches r.key q = true
    (∀ i r, claims i r → (∀ j r', j < i → ¬ claims j r') →
        s.frameLookup q = (some (i, r), { s with path := { s.path with
          entries := s.path.entries.put i (some { r with hits := min 65535 (r.hits + 1) }) } }))
      ∧ ((∀ i r, ¬ claims i r) → s.frameLookup q = (none, s))

/-- LOOKUP, FIND and FIND FREE: the lowest candidate with its entry, and the multiple-match flag when there are two or more; it
becomes the last-match index. With no candidate the reply is NOMATCH and the last-match index none. Nothing else changes, and a
request out of range changes nothing (R47, R48, R49, R50). -/
def Obligations.SearchesFindTheLowestCandidate : Prop :=
  ∀ (s : State) (c : CarriedKey), s.accepting →
    let p := match s.path.active with | .a => s.path.maskA | .b => s.path.maskB
    let legal : Prop := c.dest.toNat ≤ 4095 ∧ c.cls.toNat ≤ 7 ∧ c.ing.toNat ≤ 16
    let ingress : Ingress := if h : c.ing.toNat < 16 then .nbr ⟨c.ing.toNat, h⟩ else .host
    let key : Key := { dest := c.dest.setWidth 12, cls := c.cls.setWidth 3, ing := ingress }
    let finds := fun (command : Instr) (kind : Byte) (candidate : EntryIdx → Prop) =>
      (∀ i, candidate i → (∀ j, j < i → ¬ candidate j) → ∃ multiple : Bool,
          (multiple = true ↔ ∃ j, j ≠ i ∧ candidate j)
            ∧ exec command s = .next
              ({ s with path := { s.path with lastMatch := some i } }.answered kind .ok (.found i multiple (s.entry i))))
        ∧ ((∀ i, ¬ candidate i) → exec command s = .next
            ({ s with path := { s.path with lastMatch := none } }.answered kind .nomatch .empty))
    let isIn := fun (st : RouteState) (i : EntryIdx) => ∃ r, s.entry i = some r ∧ r.state = st
    let isInFor := fun (st : RouteState) (i : EntryIdx) =>
      ∃ r, s.entry i = some r ∧ r.state = st ∧ p.matches r.key key = true
    (legal → finds (.lookup c) 0x06 (isInFor .live))
      ∧ (¬ legal → exec (.lookup c) s = .next (s.answered 0x06 .range .empty))
      ∧ (∀ st ∈ [(1, RouteState.live), (2, RouteState.parked), (3, RouteState.barred)],
          finds (.find st.1 1 c) 0x07 (isIn st.2)
            ∧ (legal → finds (.find st.1 0 c) 0x07 (isInFor st.2))
            ∧ (¬ legal → exec (.find st.1 0 c) s = .next (s.answered 0x07 .range .empty)))
      ∧ (∀ any : Byte, any = 0 ∨ any = 1 →
          finds (.findFree any c) 0x07 (fun i => s.entry i = none)
            ∧ exec (.find 0 any c) s = exec (.findFree any c) s)
      ∧ (∀ st any : Byte, 3 < st.toNat ∨ 1 < any.toNat → exec (.find st any c) s = .next (s.answered 0x07 .range .empty))
      ∧ (∀ any : Byte, 1 < any.toNat → exec (.findFree any c) s = .next (s.answered 0x07 .range .empty))

/-- ENTRY WRITE and ENTRY PLACE: RANGE, then STATE, then for ENTRY PLACE FULL; otherwise the whole entry at the index, or at
next-free, is replaced: hit count 0, LIVE resolved to PARKED for FORWARD to a neighbour that is not UP. A refused ENTRY WRITE
carries the entry as it stands, and nothing for an index outside 0..255 (R51, R52, R53). The reply of a write holds the entry as
it stood before beside the one now stored; what is clocked out of it is log 29. -/
def Obligations.WritesStoreTheResolvedEntry : Prop :=
  (∀ (s : State) (index : Half) (e : CarriedEntry), s.accepting →
      let bad : Prop := 4095 < e.key.dest.toNat ∨ 7 < e.key.cls.toNat ∨ 16 < e.key.ing.toNat ∨ 2 < e.action.toNat
        ∨ (e.action = 0 ∧ 15 < e.hop.toNat) ∨ (e.state ≠ 1 ∧ e.state ≠ 3)
      (bad → exec (.entryPlace e) s = .next (s.answered 0x09 .range .empty))
        ∧ (255 < index.toNat → exec (.entryWrite index e) s = .next (s.answered 0x08 .range .empty))
        ∧ (bad → ∀ i : EntryIdx, exec (.entryWrite (BitVec.ofNat 16 i.val) e) s =
            .next (s.answered 0x08 .range (.entry (s.entry i)))))
  ∧ ∀ (s : State) (key : Key) (action : Action) (hopByte : Byte) (barred : Bool), s.accepting →
    (∀ n, action = .forward n → hopByte = BitVec.ofNat 8 n.val) →
    let carried : CarriedEntry :=
      { key := { dest := key.dest.setWidth 16, cls := key.cls.setWidth 8, ing := BitVec.ofNat 8 key.ing.number }
        action := BitVec.ofNat 8 action.number, hop := hopByte, state := if barred then 3 else 1 }
    let down : Prop := ∃ n, action = .forward n ∧ (s.nbr n).state ≠ .up
    let vacant : Prop := ∃ n, action = .forward n ∧ (s.nbr n).state = .vacant
    let stored := fun (i : EntryIdx) (st : RouteState) (kind : Byte) (code : ResultCode) =>
      let r : Route := { state := st, key := key, action := action, hits := 0 }
      { s with path := { s.path with entries := s.path.entries.put i (some r) } }.answered kind code
        (.entryAt i (s.entry i) (some r))
    (∀ i : EntryIdx,
        let command : Instr := .entryWrite (BitVec.ofNat 16 i.val) carried
        (vacant → exec command s = .next (s.answered 0x08 .state (.entry (s.entry i))))
          ∧ (¬ vacant → barred = true → exec command s = .next (stored i .barred 0x08 .ok))
          ∧ (¬ vacant → barred = false → ¬ down → exec command s = .next (stored i .live 0x08 .ok))
          ∧ (¬ vacant → barred = false → down → exec command s = .next (stored i .parked 0x08 .parked)))
      ∧ (vacant → exec (.entryPlace carried) s = .next (s.answered 0x09 .state .empty))
      ∧ (¬ vacant → (∀ i, s.entry i ≠ none) → exec (.entryPlace carried) s = .next (s.answered 0x09 .full .empty))
      ∧ ∀ i : EntryIdx, ¬ vacant → s.entry i = none → (∀ j, j < i → s.entry j ≠ none) →
          (barred = true → exec (.entryPlace carried) s = .next (stored i .barred 0x09 .ok))
            ∧ (barred = false → ¬ down → exec (.entryPlace carried) s = .next (stored i .live 0x09 .ok))
            ∧ (barred = false → down → exec (.entryPlace carried) s = .next (stored i .parked 0x09 .parked))

/-- ENTRY READ, whole (R54): RANGE outside 0..255; otherwise the entry as it stands (a FREE one without key, action and next hop
and with hit count 0; the next hop for FORWARD only), and nothing changes. Its bytes follow R175 but where R175 leaves them open,
and there they are the model's choice: the action byte of a FREE entry is a free value (log 8), and the byte of its absent ingress
is FF (log 9). -/
def Obligations.EntryReadReportsTheEntry : Prop :=
  (∀ (s : State) (index : Half), s.accepting → 255 < index.toNat →
      exec (.entryRead index) s = .next (s.answered 0x0A .range .empty))
    ∧ (∀ (s : State) (i : EntryIdx), s.accepting →
      exec (.entryRead (BitVec.ofNat 16 i.val)) s = .next (s.answered 0x0A .ok (.entry (s.entry i))))
    ∧ (ReplyBody.entry none).bytes = [0, 0xFF, 0xFF, 0xFF, 0xFF, Config.absentName, 0xFF, 0, 0]
    ∧ ∀ r : Route, ∃ hop : Byte, (ReplyBody.entry (some r)).bytes =
        [BitVec.ofNat 8 r.state.number] ++ halfBytes (r.key.dest.setWidth 16) ++ [r.key.cls.setWidth 8,
          BitVec.ofNat 8 r.key.ing.number, BitVec.ofNat 8 r.action.number, hop] ++ halfBytes (BitVec.ofNat 16 r.hits)
          ∧ (∀ n, r.action = .forward n → hop = BitVec.ofNat 8 n.val)
          ∧ ((∀ n, r.action ≠ .forward n) → hop = 0xFF)

/-- ENTRY STATE: RANGE, NOMATCH and STATE in that order, and the table of R56; the entry keeps its key, action and hit count but for
FREE, and the last-match index stays (R55, R56). The reply reports the entry that it changed from, PARKED or LIVE as a parking was
taken before or not (R61), and the entry as it now stands; what is clocked out of it is log 29. That LAST without a last-match
index and with an illegal target state is refused RANGE with an empty body is log 30. Both are the model's choices. -/
def Obligations.EntryStateFollowsItsTable : Prop :=
  ∀ s : State, s.accepting →
    let target := fun (t : Half) (i : EntryIdx) => t = BitVec.ofNat 16 i.val ∨ (t = 0xFFFE ∧ s.path.lastMatch = some i)
    let set := fun (i : EntryIdx) (e : Entry) (code : ResultCode) =>
      { s with path := { s.path with entries := s.path.entries.put i e } }.answered 0x0B code
        (.entryAt i (s.entry i) e)
    (∀ (t : Half) (st : Byte), 255 < t.toNat → t ≠ 0xFFFE →
        exec (.entryState t st) s = .next (s.answered 0x0B .range .empty))
      ∧ (∀ st : Byte, s.path.lastMatch = none → st = 0 ∨ st = 1 ∨ st = 3 →
          exec (.entryState 0xFFFE st) s = .next (s.answered 0x0B .nomatch .empty))
      ∧ (∀ st : Byte, s.path.lastMatch = none → st ≠ 0 → st ≠ 1 → st ≠ 3 →
          exec (.entryState 0xFFFE st) s = .next (s.answered 0x0B .range .empty))
      ∧ ∀ (t : Half) (i : EntryIdx), target t i →
        (∀ st : Byte, st ≠ 0 → st ≠ 1 → st ≠ 3 →
            exec (.entryState t st) s = .next (s.answered 0x0B .range (.entry (s.entry i))))
          ∧ exec (.entryState t 0) s = .next (set i none .ok)
          ∧ (s.entry i = none → exec (.entryState t 1) s = .next (s.answered 0x0B .state (.entry none))
              ∧ exec (.entryState t 3) s = .next (s.answered 0x0B .state (.entry none)))
          ∧ ∀ r, s.entry i = some r →
            exec (.entryState t 3) s = .next (set i (some { r with state := .barred }) .ok)
              ∧ (r.state = .live → exec (.entryState t 1) s = .next (set i (some r) .ok))
              ∧ (r.state = .parked → exec (.entryState t 1) s = .next (set i (some r) .parked))
              ∧ (r.state = .barred →
                  ((∃ n, r.action = .forward n ∧ (s.nbr n).state ≠ .up) →
                      exec (.entryState t 1) s = .next (set i (some { r with state := .parked }) .parked))
                    ∧ (¬ (∃ n, r.action = .forward n ∧ (s.nbr n).state ≠ .up) →
                      exec (.entryState t 1) s = .next (set i (some { r with state := .live }) .ok)))

/-- TABLE CLEAR, whole (R57): ALL frees every entry and makes the last-match index none; a state frees the entries in it, and the
last-match index becomes none only if it names one of them; any other scope is refused RANGE. The reply carries the number
freed. MASK SET and MASK SELECT, whole (R45, R46): a profile name other than A or B, an ignore set beyond the twelve positions or
a flag other than 0 and 1 is refused; otherwise the profile takes its three values, or becomes active, and nothing else changes.
A reply carries both profiles and the active one, but for a refused MASK SELECT. -/
def Obligations.TableClearAndMaskRequests : Prop :=
  ∀ s : State, s.accepting →
    ((∀ scope : Byte, scope.toNat = 0 ∨ 4 < scope.toNat →
        exec (.tableClear scope) s = .next (s.answered 0x0C .range .empty))
      ∧ exec (.tableClear 4) s = .next
          ({ s with path := { s.path with entries := Tab.all 256 none, lastMatch := none } }.answered 0x0C .ok
            (.freed ((List.finRange 256).filter fun i => (s.entry i).isSome).length))
      ∧ ∀ scope ∈ [(1, RouteState.live), (2, RouteState.parked), (3, RouteState.barred)],
        let freed := fun e : Entry => match e with | none => false | some r => decide (r.state = scope.2)
        ∃ (t : State) (count : Nat), exec (.tableClear scope.1) s = .next (t.answered 0x0C .ok (.freed count))
          ∧ count = ((List.finRange 256).filter fun i => freed (s.entry i)).length
          ∧ (∀ i, t.entry i = if freed (s.entry i) then none else s.entry i)
          ∧ t.path.lastMatch = s.path.lastMatch.filter (fun i => !freed (s.entry i))
          ∧ t = { s with path := { s.path with entries := t.path.entries, lastMatch := t.path.lastMatch } })
    ∧ (let now := ReplyBody.masks s.path.maskA s.path.maskB s.path.active
      (∀ (profile : Byte) (ignore : Half) (c g : Byte),
          1 < profile.toNat ∨ 4095 < ignore.toNat ∨ 1 < c.toNat ∨ 1 < g.toNat →
          exec (.maskSet profile ignore c g) s = .next (s.answered 0x0D .range now))
        ∧ (∀ m : Mask,
            let flag := fun b : Bool => if b then (1 : Byte) else 0
            exec (.maskSet 0 (m.ignore.setWidth 16) (flag m.cmpClass) (flag m.cmpIngress)) s = .next
                ({ s with path := { s.path with maskA := m } }.answered 0x0D .ok (.masks m s.path.maskB s.path.active))
              ∧ exec (.maskSet 1 (m.ignore.setWidth 16) (flag m.cmpClass) (flag m.cmpIngress)) s = .next
                ({ s with path := { s.path with maskB := m } }.answered 0x0D .ok (.masks s.path.maskA m s.path.active)))
        ∧ (∀ profile : Byte, 1 < profile.toNat → exec (.maskSelect profile) s = .next (s.answered 0x0E .range .empty))
        ∧ exec (.maskSelect 0) s = .next
            ({ s with path := { s.path with active := .a } }.answered 0x0E .ok (.masks s.path.maskA s.path.maskB .a))
        ∧ exec (.maskSelect 1) s = .next
            ({ s with path := { s.path with active := .b } }.answered 0x0E .ok (.masks s.path.maskA s.path.maskB .b)))

/-! ## Outbound records (09, 11) -/

/-- What the host reads (R175): every reply, notice and FRAME record is its kind byte, its body length in two bytes and its body;
a body holds the fields of the owning rule in its order, each most-significant byte first, absent values as FF, FFFF, −32768 or
−2147483648, names numbered from 0 in the order of their list. ATTN is asserted exactly while a reply waits, a notice is pending
or a frame waits (R163), and not during a start (R172; of the start of RESTART COLD log 20). The model's choices: the byte of an
absent name is free (log 8); fields to which R175 gives no type, and the order in a FRAME SEND reply (log 9, log 25); the
numbers of names whose list is not a table of R175 (log 27); the entry that a write or ENTRY STATE changed from is not sent
(log 29); a LINK notice carries the fields of R35, so the margin without A (log 32). -/
def Obligations.OutboundRecordsAndAttn : Prop :=
  let field := fun f : Nat × Int => (List.range f.1).map fun j => (BitVec.ofInt 8 (f.2 / 256 ^ (f.1 - 1 - j)) : Byte)
  let bytes := fun fields : List (Nat × Int) => fields.flatMap field
  let one := fun n : Nat => ((1, (n : Int)) : Nat × Int)
  let two := fun n : Nat => ((2, (n : Int)) : Nat × Int)
  let flag := fun b : Bool => one (if b then 1 else 0)
  let opt1 := fun x : Option Nat => one (x.getD 0xFF)
  let opt2 := fun x : Option Nat => two (x.getD 0xFFFF)
  let signed := fun x : Option Int => ((2, x.getD (-32768)) : Nat × Int)
  let diff := fun x : Option Int => ((4, x.getD (-2147483648)) : Nat × Int)
  let name := fun x : Option Nat => match x with
    | none => [Config.absentName]
    | some n => bytes [one n]
  let linkState := fun st : LinkState => one ([.vacant, .seeking, .weak, .up, .lost, .held].idxOf st)
  let scanState := fun st : ScanTag => one ([.idle, .armed, .dwelling, .paused, .waiting].idxOf st)
  let startCause := fun c : StartCause => one ([.power, .pin, .coldRequest, .warmRequest].idxOf c)
  let linkCause := fun c : LinkCause =>
    one ([.enrol, .acquired, .epoch, .fade, .recover, .miss, .timeout, .handover, .confirm, .retire].idxOf c)
  let profile := fun p : Profile => one ([.a, .b].idxOf p)
  let ingress := fun g : Ingress => match g with
    | .nbr n => one n.val
    | .host => one 16
  let action := fun a : Action => match a with
    | .forward n => (0, some n.val)
    | .deliver => ((1, none) : Nat × Option Nat)
    | .discard => (2, none)
  let entry := fun e : Entry => match e with
    | none => bytes [one 0, opt2 none, opt1 none, opt1 none] ++ name none ++ bytes [opt1 none, two 0]
    | some r => bytes [one (1 + [.live, .parked, .barred].idxOf r.state), two r.key.dest.toNat, one r.key.cls.toNat,
        ingress r.key.ing, one (action r.action).1, opt1 (action r.action).2, two r.hits]
  let identity := fun i : Option Identity => [opt2 (i.map (·.nodeId)), opt2 (i.map (·.epoch.toNat))]
  let holds := fun h : Holds => one ((if h.identity then 1 else 0) + (if h.supply then 2 else 0) + (if h.drift then 4 else 0))
  let mask := fun m : Mask => [two m.ignore.toNat, flag m.cmpClass, flag m.cmpIngress]
  let settings := fun c : LinkSettings =>
    [one c.k, signed (some c.tF), signed (some c.tR), one c.wF, one c.wR, one c.missLimit, signed (some c.t1),
      signed (some c.t2), signed (some c.t3), one c.hyst, one c.retryLimit, one c.acqLimit, one c.queueLimit]
  let setting := fun x : SettingName =>
    one ([.k, .tF, .tR, .wF, .wR, .missLimit, .thresholds, .hyst, .retryLimit, .acqLimit, .queueLimit].idxOf x)
  let scanSettings := fun c : ScanSettings =>
    [one ([.once, .onceLocked, .repeat, .step].idxOf c.mode), one c.start.val, one c.stop.val, flag c.boundary, flag c.loss]
  let counters := fun c : NbrCounters =>
    [two c.sent, two c.acked, two c.retries, two c.received, two c.duplicates, two c.stale, two c.refused]
  let neighbour := fun r : NbrReport =>
    [linkState r.state, opt2 r.nodeId, opt1 (r.sector.map (·.val)), opt2 (r.epoch.map (·.toNat)), signed r.acc,
        signed r.margin, flag r.reseed, one r.tier.val, one r.cap.val, one r.fade, one r.good, one r.miss]
      ++ (List.finRange 6).map (fun sec => signed (r.margins.look sec))
      ++ [two r.txSeq.toNat, opt2 (r.high.map (·.toNat)), one r.seen.length] ++ r.seen.map (fun q => two q.toNat)
      ++ [one r.age, one r.queueLen] ++ counters r.counters
  let status := fun r : StatusReport =>
    [startCause r.cause, flag r.latch, flag r.level] ++ identity r.identity
      ++ [flag r.running, holds r.holds, one r.active.val, two r.slotLen, two r.count.toNat, opt1 (r.sync.map (·.val)),
        diff r.lastD, profile r.profile, two r.freeEntries, opt2 (r.nextFree.map (·.val)), one r.freePages,
        one r.freeRecords, one r.deliveryLen, scanState r.scanner, opt1 (r.current.map (·.val)), two r.ignored]
  let result : ReplyBody → List Byte := fun b => match b with
    | .empty => []
    | .format len why taken => bytes [opt2 len, one ([.kind, .length, .short].idxOf why), two taken]
    | .settings now clamped => bytes (settings now ++ one clamped.length :: clamped.map setting)
    | .enrolled n cap clamped => bytes [one n.val, one cap.val, flag clamped]
    | .retired entries frames => bytes [two entries, one frames]
    | .linkState st => bytes [linkState st]
    | .neighbour r => bytes (neighbour r)
    | .found i multiple e => bytes [two i.val, flag multiple] ++ entry e
    | .entryAt i _ now => bytes [two i.val] ++ entry now
    | .entry e => entry e
    | .freed n => bytes [two n]
    | .masks a b active => bytes (mask a ++ mask b ++ [profile active])
    | .sent h hop q hops i => bytes [one h.val, one hop.val, two q.toNat, one hops.toNat, two i.val]
    | .notSent hops winner =>
      bytes [one hops.toNat, opt2 (winner.map (·.1.val))] ++ name (winner.map fun w => (action w.2).1)
    | .counters d failed foreign =>
      bytes [two d.retry, two d.airtime, two d.hops, two d.reflect, two d.queue, two d.noroute, two d.retired, two d.action,
        two failed, two foreign]
    | .slotLength v differed => bytes [two v, flag differed]
    | .mapWritten m valid sum => bytes [one m.val, flag valid, two sum.toNat]
    | .mapRead m valid sum active =>
      bytes ((List.finRange 32).map (fun i => two (m.codes.look i).toNat)
        ++ [two m.check.toNat, flag valid, two sum.toNat, flag active])
    | .activeMap m => bytes [one m.val]
    | .activeMapAt m count => bytes [one m.val, two count.toNat]
    | .mapFault m sum => bytes [one m.val, two sum.toNat]
    | .mapFaultAt m sum count => bytes [one m.val, two sum.toNat, two count.toNat]
    | .stopped count slot => bytes [two count.toNat, opt1 (slot.map (·.val))]
    | .timing sync cleared => bytes [opt1 (sync.map (·.val)), flag cleared]
    | .scanSettings c => bytes (scanSettings c)
    | .scanRefused c st => bytes (scanSettings c ++ [scanState st])
    | .scanStarted outcome st current ignored =>
      bytes [one ([.started, .restarted, .resumed, .ignored].idxOf outcome), scanState st, opt1 (current.map (·.val)),
        two ignored]
    | .scanHalted st current => bytes [scanState st, opt1 (current.map (·.val))]
    | .identified now was removed => bytes ([two now.nodeId, one now.epoch.toNat] ++ identity was ++ [flag removed])
    | .identifyRefused now running => bytes (identity now ++ [flag running])
    | .status r => bytes (status r)
    | .restarted i running => bytes (identity i ++ [flag running])
  let notice : Notice → Byte × List Byte := fun n => match n.content with
    | .link i id st cause sec epoch margin =>
      (0xC1, bytes [one i.val, opt2 id, linkState st, linkCause cause, one n.changes, opt1 (sec.map (·.val)), opt2 (epoch.map (·.toNat)), signed margin, opt2 (n.rescue.map (·.moved)),
        opt2 (n.rescue.map (·.dropped))])
    | .scanner sec count slot floor beacons more heard failed other st current next =>
      (0xC2, bytes ([one sec.val, two count.toNat, one slot.val, two floor.toNat, one beacons.length]
        ++ beacons.flatMap (fun b => [two b.nodeId, one b.epoch.toNat, signed (some b.sample), opt1 (b.enrolled.map (·.val))])
        ++ [flag more, one heard, one failed, one other, scanState st, opt1 (current.map (·.val)), opt1 (next.map (·.val))]))
    | .scheduler cause drift sync d count =>
      (0xC3, bytes [one ([.driftSet, .driftCleared, .syncCleared].idxOf cause), flag drift, opt1 (sync.map (·.val)), diff d,
        two count.toNat, one n.changes])
    | .supply edge level latch cut count =>
      (0xC4, bytes [one ([.asserted, .released].idxOf edge), flag level, flag latch]
        ++ name (cut.map fun c => [.none, .burst, .ackset, .beacon].idxOf c) ++ bytes [two count.toNat, one n.changes])
    | .start cause i level latch =>
      (0xC5, bytes ([startCause cause] ++ identity i ++ [flag level, flag latch, one n.changes]))
  let record := fun (kind : Byte) (body : List Byte) => kind :: (bytes [two body.length] ++ body)
  (∀ r : Reply, r.record = record 0x80 (r.kind.getD 0 :: (bytes [one
      ([.ok, .parked, .format, .range, .state, .full, .queue, .nomatch, .noroute, .local, .discarded, .nobuf,
        .mapfault].idxOf r.code)] ++ result r.body)))
    ∧ (∀ n : Notice, n.record = record (notice n).1 (notice n).2)
    ∧ (∀ (f : FrameRec) (payload : List Byte), frameRecord f payload = record 0xE0
        (bytes [ingress f.ing, two f.dest.toNat, one f.cls.toNat, one f.hops.toNat, two f.len, flag (f.unrouted.getD false)]
          ++ payload))
    ∧ ∀ s : State, s.attn = true ↔
        s.part.starting = none ∧ (s.link.reply ≠ none ∨ s.link.notices ≠ [] ∨ s.store.delivery ≠ [])

/-! ## Frame store (04) -/

/-- FRAME SEND: RANGE, STATE and LOCAL in that order change nothing; otherwise one lookup with ingress 16, the winner's hit count
raised, and the outcome of the table of R75, the queue limit before the storage (R64, R67, R68, R74, R75). That the replies
of the first three carry the hop count taken, and index and action absent, is log 25, an inference of the model's. A frame stored
reads back whole, and the payloads of the other stored frames stay, where the page memory has its canonical form and the page law
holds, as every step keeps them (R62). -/
def Obligations.FrameSendFollowsItsTable : Prop :=
  ∀ (s : State) (dest : Half) (cls hops : Byte) (payload : List Byte), s.accepting →
    1 ≤ payload.length → payload.length ≤ 1440 →
    let taken : BitVec 4 := if hops = 0 then 8 else if 15 < hops.toNat then 15 else hops.setWidth 4
    let command : Instr := .frameSend dest cls hops payload
    let legal : Prop := 1 ≤ dest.toNat ∧ dest.toNat ≤ 4094 ∧ cls.toNat ≤ 7
    let asked := s.frameLookup { dest := dest.setWidth 12, cls := cls.setWidth 3, ing := .host }
    let t := asked.2
    (¬ legal → exec command s = .next (s.answered 0x0F .range (.notSent taken none)))
      ∧ (legal → s.part.identity = none → exec command s = .next (s.answered 0x0F .state (.notSent taken none)))
      ∧ ∀ ident, legal → s.part.identity = some ident →
        (dest.toNat = ident.nodeId → exec command s = .next (s.answered 0x0F .local (.notSent taken none)))
          ∧ (dest.toNat ≠ ident.nodeId →
            (asked.1 = none → exec command s = .next (t.answered 0x0F .noroute (.notSent taken none)))
              ∧ ∀ i r, asked.1 = some (i, r) →
                (r.action = .discard → exec command s = .next
                    ((t.countDiscard .action).answered 0x0F .discarded (.notSent taken (some (i, .discard)))))
                  ∧ (r.action = .deliver → exec command s = .next
                    (t.answered 0x0F .local (.notSent taken (some (i, .deliver)))))
                  ∧ ∀ m, r.action = .forward m →
                    (s.mon.settings.queueLimit ≤ (s.queue m).length → exec command s = .next
                        (t.answered 0x0F .queue (.notSent taken (some (i, .forward m)))))
                      ∧ ((s.queue m).length < s.mon.settings.queueLimit →
                          ((payload.length + 95) / 96 > s.store.freePages ∨ ∀ h, s.frame h ≠ none) →
                          exec command s = .next (t.answered 0x0F .nobuf (.notSent taken (some (i, .forward m)))))
                      ∧ ∀ h, (s.queue m).length < s.mon.settings.queueLimit →
                          (payload.length + 95) / 96 ≤ s.store.freePages → s.frame h = none →
                          (∀ j, j < h → s.frame j ≠ none) →
                          ∃ u : State, exec command s = .next
                              (u.answered 0x0F .ok (.sent h m (s.nbr m).txSeq taken i))
                            ∧ u.queue m = s.queue m ++ [h] ∧ (∀ n, n ≠ m → u.queue n = s.queue n)
                            ∧ u.nbr m = { s.nbr m with txSeq := (s.nbr m).txSeq + 1 }
                            ∧ (∀ n, n ≠ m → u.nbr n = s.nbr n)
                            ∧ (∃ f : FrameRec, u.frame h = some f ∧ f.pages.length = (payload.length + 95) / 96
                              ∧ f =
                                { place := .queue m, ing := .host, dest := dest.setWidth 12, cls := cls.setWidth 3,
                                  hops := taken, len := payload.length, pages := f.pages, seq := some (s.nbr m).txSeq,
                                  retries := some 0, unrouted := none }
                              ∧ (MemoryLaw s → PageLaw s → u.payload f = payload))
                            ∧ (∀ j, j ≠ h → u.frame j = s.frame j)
                            ∧ (MemoryLaw s → PageLaw s →
                                ∀ j g, j ≠ h → s.frame j = some g → u.payload g = s.payload g) ∧ u.store.delivery = s.store.delivery
                            ∧ u.store.discards = s.store.discards ∧ u.path = t.path ∧ u.link = s.link
                            ∧ u.radio = s.radio ∧ u.sched = s.sched ∧ u.scan = s.scan ∧ u.part = s.part)

/-- A stored payload reads back whole, whichever pages it was given, and storing it disturbs no other stored frame, where the page
memory has its canonical form and the page law holds, as every step keeps them (R62, R64). -/
def Obligations.StoredPayloadsReadBack : Prop :=
  ∀ (s : State) (h : Handle) (ing : Ingress) (dest : BitVec 12) (cls : BitVec 3) (hops : BitVec 4) (payload : List Byte),
    MemoryLaw s → PageLaw s → s.frame h = none → (payload.length + 95) / 96 ≤ s.store.freePages →
    let t := s.allocate h ing dest cls hops payload
    (∃ f, t.frame h = some f ∧ f.ing = ing ∧ f.dest = dest ∧ f.cls = cls ∧ f.hops = hops ∧ f.len = payload.length
        ∧ t.payload f = payload)
      ∧ (∀ j f, j ≠ h → s.frame j = some f → t.frame j = some f ∧ t.payload f = s.payload f)
      ∧ t.store.freePages + (payload.length + 95) / 96 = s.store.freePages
      ∧ t.store.freeRecords + 1 = s.store.freeRecords

/-- COUNTERS, whole (R73): the ten counters as they stand; with the clear option they are 0 after that; nothing else changes. -/
def Obligations.CountersReportsAndClears : Prop :=
  ∀ s : State, s.accepting →
    let body := ReplyBody.counters s.store.discards s.store.checkFail s.store.foreign
    (∀ clear : Byte, 1 < clear.toNat → exec (.counters clear) s = .next (s.answered 0x10 .range .empty))
      ∧ exec (.counters 0) s = .next (s.answered 0x10 .ok body)
      ∧ exec (.counters 1) s = .next
          ({ s with store := { s.store with
              discards := ⟨0, 0, 0, 0, 0, 0, 0, 0⟩, checkFail := 0, foreign := 0 } }.answered 0x10 .ok body)

/-! ## Receive path (05) -/

/-- The classes of a DATA sequence q against a window, whole (R83): without H it is new; with b = (H − q) mod 4096 it is a
duplicate for b in 0..31 and q seen, new for b in 0..31 and q not seen, stale for b in 32..2048, and new for b in 2049..4095;
H itself is a duplicate where it is in the seen set. Acceptance of a new one then marks q seen, moves H to q where H was absent
or q lies ahead, and drops what falls outside the 32 sequences that end at H (R86). -/
def Obligations.WindowClasses : Prop :=
  (∀ (r : Nbr) (q : Seq), r.high = none → r.classify q = .fresh ∧ r.accept q = { r with high := some q, seen := [q] })
    ∧ ∀ (r : Nbr) (h q : Seq), r.high = some h →
      let b := (4096 + h.toNat - q.toNat) % 4096
      let high : Seq := if b ≤ 31 then h else q
      (b ≤ 31 → q ∈ r.seen → r.classify q = .duplicate)
        ∧ (b ≤ 31 → q ∉ r.seen → r.classify q = .fresh)
        ∧ (32 ≤ b → b ≤ 2048 → r.classify q = .stale)
        ∧ (2049 ≤ b → r.classify q = .fresh)
        ∧ (h ∈ r.seen → r.classify h = .duplicate)
        ∧ (r.classify q = .fresh → ∃ seen : List Seq, r.accept q = { r with high := some high, seen := seen }
            ∧ (∀ x, x ∈ seen ↔ (x = q ∨ x ∈ r.seen) ∧ (4096 + high.toNat - x.toNat) % 4096 ≤ 31)
            ∧ seen.Pairwise fun x y => (4096 + high.toNat - y.toNat) % 4096 < (4096 + high.toNat - x.toNat) % 4096)

/-- A frame that ends in an RX slot is received in its body only (R78). A failed frame and a foreign frame are counted and
otherwise ignored (R79, R80); a valid HOLD frame makes the context heard and gives the first code (R81); a valid DATA frame does
so too and is refused in HELD, acknowledged and counted where it is a duplicate or stale (R83, R84, R90), and refused where
storage is short (R85). From a neighbour that is not UP, WEAK or HELD nothing further follows (log 12, the model's choice). -/
def Obligations.ReceivedFramesAreJudgedInOrder : Prop :=
  ∀ (s : State) (bytes : List Byte) (code : Code),
    let command : Instr := .rxFrameArrival bytes code
    ((s.radio.rx = none ∨ ∀ o, s.sched.openSlot = some o → o.part ≠ .body) → exec command s = .next s)
      ∧ ∀ ctx o, s.radio.rx = some ctx → s.sched.openSlot = some o → o.part = .body →
        let n := ctx.nbr
        let r := s.nbr n
        let heard : RxCtx := { ctx with heard := true, firstCode := some (ctx.firstCode.getD code) }
        let listed := fun (q : Seq) =>
          { heard with acks := if q ∈ ctx.acks ∨ 8 ≤ ctx.acks.length then ctx.acks else ctx.acks ++ [q] }
        let outcome := fun (c : RxCtx) (count : NbrCounters) =>
          { s with radio := { s.radio with rx := some c }, mon := { s.mon with nbrs := s.mon.nbrs.put n { r with counters := count } } }
        let exchange := fun (tx rx : Half) => (∃ i, s.part.identity = some i ∧ i.nodeId = rx.toNat) ∧ r.nodeId = some tx.toNat
        let foreign := fun f : AirFrame => match f with
          | .hold tx rx => ¬ exchange tx rx
          | .data d => ¬ exchange d.tx d.rx
          | .ackset _ _ _ => True
          | .beacon _ _ _ _ => True
        (parseFrame bytes = none → exec command s = .next
            { s with store := { s.store with checkFail := min 65535 (s.store.checkFail + 1) } })
          ∧ (∀ f, parseFrame bytes = some f → foreign f → exec command s = .next
            { s with store := { s.store with foreign := min 65535 (s.store.foreign + 1) } })
          ∧ (∀ tx rx, parseFrame bytes = some (.hold tx rx) → exchange tx rx →
            exec command s = .next { s with radio := { s.radio with rx := some heard } })
          ∧ ∀ d, parseFrame bytes = some (.data d) → exchange d.tx d.rx →
            (r.state = .held → exec command s = .next
                (outcome heard { r.counters with refused := min 65535 (r.counters.refused + 1) }))
              ∧ (r.state.heard = false → exec command s = .next { s with radio := { s.radio with rx := some heard } })
              ∧ (r.state = .up ∨ r.state = .weak →
                (r.classify d.seq = .duplicate → exec command s = .next
                    (outcome (listed d.seq) { r.counters with duplicates := min 65535 (r.counters.duplicates + 1) }))
                  ∧ (r.classify d.seq = .stale → exec command s = .next
                    (outcome (listed d.seq) { r.counters with stale := min 65535 (r.counters.stale + 1) }))
                  ∧ (r.classify d.seq = .fresh →
                      (s.store.freePages < (d.payload.length + 95) / 96 ∨ ∀ h, s.frame h ≠ none) →
                      exec command s = .next
                        (outcome heard { r.counters with refused := min 65535 (r.counters.refused + 1) })))

/-- A new DATA frame with storage available is accepted and disposed of by the table of R87 and R88: to this node's own id, or by
one lookup with the neighbour as ingress, whose winner's hit count rises; reflection is tested before hops, hops before the
queue. Whatever its disposal it is marked seen, acknowledged and counted received, and a dropped frame leaves the storage as it
was (R86, R89, R90). A frame stored reads back whole, and the payloads of the other stored frames stay, where the page memory has
its canonical form and the page law holds, as every step keeps them (R62). -/
def Obligations.AcceptedFramesFollowTheTable : Prop :=
  ∀ (s : State) (bytes : List Byte) (code : Code) (ctx : RxCtx) (o : OpenSlot) (d : DataFrame) (ident : Identity) (h : Handle),
    s.radio.rx = some ctx → s.sched.openSlot = some o → o.part = .body → parseFrame bytes = some (.data d) →
    s.part.identity = some ident → ident.nodeId = d.rx.toNat → (s.nbr ctx.nbr).nodeId = some d.tx.toNat →
    ((s.nbr ctx.nbr).state = .up ∨ (s.nbr ctx.nbr).state = .weak) → (s.nbr ctx.nbr).classify d.seq = .fresh →
    (d.payload.length + 95) / 96 ≤ s.store.freePages → s.frame h = none → (∀ j, j < h → s.frame j ≠ none) →
    let n := ctx.nbr
    let r := s.nbr n
    let asked := s.frameLookup { dest := d.dest, cls := d.cls, ing := .nbr n }
    let own : Prop := ident.nodeId = d.dest.toNat
    let listed : RxCtx :=
      { ctx with heard := true, firstCode := some (ctx.firstCode.getD code),
                 acks := if d.seq ∈ ctx.acks ∨ 8 ≤ ctx.acks.length then ctx.acks else ctx.acks ++ [d.seq] }
    let accepted : Nbr :=
      { r.accept d.seq with counters := { r.counters with received := min 65535 (r.counters.received + 1) } }
    ∃ t : State, exec (.rxFrameArrival bytes code) s = .next t
      ∧ t.radio = { s.radio with rx := some listed }
      ∧ t.nbr n = accepted
      ∧ t.mon.settings = s.mon.settings ∧ t.mon.floors = s.mon.floors
      ∧ t.link = s.link ∧ t.sched = s.sched ∧ t.scan = s.scan ∧ t.part = s.part
      ∧ t.store.checkFail = s.store.checkFail ∧ t.store.foreign = s.store.foreign
      ∧ (∀ j, j ≠ h → t.frame j = s.frame j)
      ∧ (MemoryLaw s → PageLaw s → ∀ j g, j ≠ h → s.frame j = some g → t.payload g = s.payload g)
      ∧ (own → t.path = s.path) ∧ (¬ own → t.path = asked.2.path)
      ∧ (let stored := fun (place : Place) (hops : BitVec 4) (seq : Option Seq) (retries : Option Nat) (unrouted : Option Bool) =>
          t.store.discards = s.store.discards
            ∧ ∃ f : FrameRec, t.frame h = some f ∧ f.place = place ∧ f.ing = .nbr n ∧ f.dest = d.dest ∧ f.cls = d.cls
              ∧ f.hops = hops ∧ f.len = d.payload.length ∧ f.pages.length = (d.payload.length + 95) / 96 ∧ f.seq = seq
              ∧ f.retries = retries ∧ f.unrouted = unrouted ∧ (MemoryLaw s → PageLaw s → t.payload f = d.payload)
        let delivered := fun (unrouted : Bool) =>
          stored .delivery d.hops none none (some unrouted) ∧ t.store.delivery = s.store.delivery ++ [h]
            ∧ (∀ m, t.queue m = s.queue m) ∧ ∀ m, m ≠ n → t.nbr m = s.nbr m
        let relayed := fun (m : NbrIdx) =>
          stored (.queue m) (d.hops - 1) (some (s.nbr m).txSeq) (some 0) none ∧ t.store.delivery = s.store.delivery
            ∧ t.queue m = s.queue m ++ [h] ∧ (∀ k, k ≠ m → t.queue k = s.queue k)
            ∧ t.nbr m = { s.nbr m with txSeq := (s.nbr m).txSeq + 1 } ∧ ∀ k, k ≠ n → k ≠ m → t.nbr k = s.nbr k
        let dropped := fun (counted : Discards) =>
          t.store = { s.store with discards := counted } ∧ ∀ m, m ≠ n → t.nbr m = s.nbr m
        let was := s.store.discards
        (own → delivered false)
          ∧ (¬ own → asked.1 = none → delivered true)
          ∧ ∀ i e, ¬ own → asked.1 = some (i, e) →
            (e.action = .discard → dropped { was with action := min 65535 (was.action + 1) })
              ∧ (e.action = .deliver → delivered false)
              ∧ (e.action = .forward n → dropped { was with reflect := min 65535 (was.reflect + 1) })
              ∧ ∀ m, m ≠ n → e.action = .forward m →
                (d.hops.toNat ≤ 1 → dropped { was with hops := min 65535 (was.hops + 1) })
                  ∧ (1 < d.hops.toNat → (s.queue m).length < s.mon.settings.queueLimit → relayed m)
                  ∧ (1 < d.hops.toNat → s.mon.settings.queueLimit ≤ (s.queue m).length →
                      dropped { was with queue := min 65535 (was.queue + 1) }))

/-! ## Slots (05, 06, 07, 08) -/

/-- The start of a slot opens it for the owner that its code names: IDLE for none; an RX slot for an UP, WEAK or HELD neighbour
listens; a TX slot for a HELD neighbour without a hold sends HOLD, and one under a hold or for a neighbour not UP, WEAK or HELD
is idle; a BEACON slot is to send with an identity and no hold; a SCAN slot dwells for an ARMED scanner, which becomes PAUSED
while its notice is pending. Slot 31 uses up the pending measurement for its correction (R78, R98, R100, R102, R112, R120, R128,
R132, R140, R141). That a slot awaits a SLOT_START event of its own is log 3, and that the event changes nothing where no slot is
due is log 1, the model's conventions. -/
def Obligations.SlotStartOpensItsOwner : Prop :=
  (∀ s : State, (∀ i, s.sched.state ≠ .running (.awaitStart i)) → exec .slotStart s = .next s)
    ∧ ∀ (s : State) (i : SlotIdx), s.sched.state = .running (.awaitStart i) →
      let code := ((s.sched.maps.look s.sched.active).codes.look i).toNat
      let corr : Int := match s.sched.pendingD with
        | none => 0
        | some d => if i = 31 then max (-25) (min 25 (d.tdiv 2)) else 0
      let opened := fun (kind : SlotKind) =>
        { s with sched :=
          { s.sched with
            state := .running (.opened { index := i, kind := kind, part := .guard, corr := corr, boundaryTaken := false }),
            pendingD := if i = 31 then none else s.sched.pendingD } }
      let hold : Prop := s.sched.holds.identity = true ∨ s.sched.holds.supply = true ∨ s.sched.holds.drift = true
      (code = 0 → exec .slotStart s = .next (opened .idle))
        ∧ (∀ n : NbrIdx, code = 512 + n.val →
            ((s.nbr n).state.heard = false → exec .slotStart s = .next (opened (.rx n)))
              ∧ ∀ sec, (s.nbr n).state.heard = true → (s.nbr n).sector = some sec →
                let ctx : RxCtx := { nbr := n, sector := sec, firstCode := none, heard := false, acks := [] }
                exec .slotStart s = .next
                  { opened (.rx n) with radio := { s.radio with rx := some ctx, rxon := true, sector := some sec } })
        ∧ (∀ n : NbrIdx, code = 256 + n.val →
            (((s.nbr n).state.heard = false ∨ hold) → exec .slotStart s = .next (opened (.tx n)))
              ∧ ∀ sec, (s.nbr n).state = .held → ¬ hold → (s.nbr n).sector = some sec →
                let tier := tierOf s.mon.settings (s.nbr n).cap ((s.nbr n).acc.map fun a => a / 16)
                let ctx : TxCtx :=
                  { nbr := some n, sector := sec, tier := tier, cost := byteCost tier, content := .hold, phase := .burst,
                    ackset := none }
                exec .slotStart s = .next { opened (.tx n) with radio := { s.radio with tx := some ctx } })
        ∧ (∀ sec : Sector, code = 768 + sec.val →
            ((s.part.identity = none ∨ hold) → exec .slotStart s = .next (opened (.beacon sec)))
              ∧ (s.part.identity ≠ none → ¬ hold →
                exec .slotStart s = .next { opened (.beacon sec) with radio := { s.radio with beacon := some sec } }))
        ∧ (code = 1024 →
            ((∀ sec, s.scan.state ≠ .armed sec) → exec .slotStart s = .next (opened .scan))
              ∧ ∀ sec, s.scan.state = .armed sec →
                (s.isPending .scanner = true →
                    exec .slotStart s = .next { opened .scan with scan := { s.scan with state := .paused sec } })
                  ∧ (s.isPending .scanner = false →
                    let d : Dwell :=
                      { sector := sec, count := s.sched.count, slot := i, quiet := none, beacons := [], heard := 0,
                        failed := 0, other := 0 }
                    exec .slotStart s = .next
                      { opened .scan with scan := { s.scan with state := .dwelling d },
                                          radio := { s.radio with rxon := true, sector := some sec } }))

/-- The in-flight set of a TX slot for an UP or WEAK neighbour: heads that could not fit an empty body are discarded AIRTIME, then
the longest run of at most 8 frames from the head whose burst fits the body, equality fitting, at the tier fixed at the start; an
empty set makes a HOLD frame. Slot 31 takes its correction from the pending measurement (R132). The frames stay queued and nothing
else changes (R10, R11, R12, R98 to R102). -/
def Obligations.TxSelectionTakesTheLongestFittingRun : Prop :=
  ∀ (s : State) (i : SlotIdx) (n : NbrIdx) (sec : Sector), StoreLaw s → s.store.discards.airtime ≤ 65535 →
    s.sched.state = .running (.awaitStart i) → ((s.sched.maps.look s.sched.active).codes.look i).toNat = 256 + n.val →
    ((s.nbr n).state = .up ∨ (s.nbr n).state = .weak) → (s.nbr n).sector = some sec →
    s.sched.holds = ⟨false, false, false⟩ →
    let tier := tierOf s.mon.settings (s.nbr n).cap ((s.nbr n).acc.map fun a => a / 16)
    let b := byteCost tier
    let body := 8 * (s.sched.slotLen - 120)
    let len := fun h : Handle => match s.frame h with | none => 0 | some f => f.len
    let corr : Int := match s.sched.pendingD with
      | none => 0
      | some d => if i = 31 then max (-25) (min 25 (d.tdiv 2)) else 0
    ∃ (t : State) (gone left set : List Handle) (ctx : TxCtx) (o : OpenSlot), exec .slotStart s = .next t
      ∧ s.queue n = gone ++ left ∧ set <+: left ∧ set.length ≤ 8
      ∧ (∀ h ∈ gone, body < 320 + (24 + len h) * b)
      ∧ (set = [] → left = [])
      ∧ (set ≠ [] → burstAirtime b (set.map len) ≤ body)
      ∧ (∀ h rest, left = set ++ h :: rest → set.length = 8 ∨ body < burstAirtime b ((set ++ [h]).map len))
      ∧ t.queue n = left ∧ (∀ m, m ≠ n → t.queue m = s.queue m)
      ∧ (∀ h, t.frame h = if h ∈ gone then none else s.frame h)
      ∧ t.store.discards = { s.store.discards with airtime := min 65535 (s.store.discards.airtime + gone.length) }
      ∧ t.store.delivery = s.store.delivery ∧ t.store.mem = s.store.mem ∧ t.store.checkFail = s.store.checkFail
      ∧ t.store.foreign = s.store.foreign
      ∧ t.radio = { s.radio with tx := some ctx }
      ∧ ctx.nbr = some n ∧ ctx.sector = sec ∧ ctx.tier = tier ∧ ctx.cost = b ∧ ctx.phase = .burst ∧ ctx.ackset = none
      ∧ (set = [] → ctx.content = .hold)
      ∧ (set ≠ [] → ∃ pairs : List (Handle × Seq), ctx.content = .frames pairs ∧ pairs.map (·.1) = set
          ∧ ∀ p ∈ pairs, ∃ f, s.frame p.1 = some f ∧ f.seq = some p.2)
      ∧ o.index = i ∧ o.kind = .tx n ∧ o.part = .guard ∧ o.corr = corr ∧ o.boundaryTaken = false
      ∧ t.sched =
        { s.sched with state := .running (.opened o), pendingD := if i = 31 then none else s.sched.pendingD }
      ∧ t.mon = s.mon ∧ t.path = s.path ∧ t.link = s.link ∧ t.scan = s.scan ∧ t.part = s.part

/-- What goes on the air and comes off it. The body starts with the burst of a TX slot (its HOLD frame, or the DATA frame of each
in-flight frame with its record's fields, payload and sequence), at the slot's tier, or with the beacon that a BEACON slot is to
send, at tier 0; every frame goes out behind the start delimiter. The last frame of a burst turns the slot to LISTEN; a beacon or
an ACKSET that ends releases TXON. The tail of an RX slot ends listening and sends the ACKSET at tier 0 where a valid frame was
heard, the neighbour is not VACANT and no hold is set (R8, R9, R91, R99, R102, R103, R112, R113, R115, R176). That BODY_START and
TAIL_START move every open slot, and TAIL_START one still in its guard, is log 4; that an event offered out of its time changes
nothing is log 1; that RXON ends at the tail of an RX slot is log 11; that a neighbour retired and enrolled anew within the slot
gets the ACKSET is log 33, the model's choice. -/
def Obligations.TransmissionsStartAndEnd : Prop :=
  (∀ s : State, (∀ o, s.sched.openSlot = some o → o.part ≠ .guard) → exec .bodyStart s = .next s)
    ∧ (∀ (s : State) (o : OpenSlot), s.sched.openSlot = some o → o.part = .guard →
      let inBody := { s with sched := { s.sched with state := .running (.opened { o with part := .body }) } }
      let burst := fun (ctx : TxCtx) (frames : List (List Byte)) =>
        { inBody with radio :=
          { s.radio with
            txon := true, sector := some ctx.sector,
            onAir := some { kind := .burst, sector := ctx.sector, tier := ctx.tier, frames := frames } } }
      (s.radio.tx = none → s.radio.beacon = none → exec .bodyStart s = .next inBody)
        ∧ (∀ ctx, s.radio.tx = some ctx → ctx.nbr = none → exec .bodyStart s = .next inBody)
        ∧ (∀ sec i, s.radio.tx = none → s.radio.beacon = some sec → s.part.identity = some i →
            exec .bodyStart s = .next
              { inBody with radio :=
                { s.radio with
                  beacon := none, txon := true, sector := some sec,
                  onAir := some
                    { kind := .beacon, sector := sec, tier := 0,
                      frames := [[0x7E, 0x81, 0x5A, 0xA5, 0x3C, 0xC3]
                        ++ beaconBytes (BitVec.ofNat 16 i.nodeId) i.epoch (BitVec.ofNat 8 o.index.val) 20] } } })
        ∧ ∀ ctx n i id, s.radio.tx = some ctx → ctx.nbr = some n → s.part.identity = some i → (s.nbr n).nodeId = some id →
          (ctx.content = .hold → exec .bodyStart s = .next
              (burst ctx [[0x7E, 0x81, 0x5A, 0xA5, 0x3C, 0xC3] ++ holdBytes (BitVec.ofNat 16 i.nodeId) (BitVec.ofNat 16 id)]))
            ∧ ∀ set, ctx.content = .frames set → (∀ p ∈ set, s.frame p.1 ≠ none) →
              ∃ frames : List (List Byte), exec .bodyStart s = .next (burst ctx frames)
                ∧ frames.length = set.length
                ∧ ∀ (k : Nat) (p : Handle × Seq) (f : FrameRec), set[k]? = some p → s.frame p.1 = some f →
                  frames[k]? = some ([0x7E, 0x81, 0x5A, 0xA5, 0x3C, 0xC3] ++ dataBytes
                    { tx := BitVec.ofNat 16 i.nodeId, rx := BitVec.ofNat 16 id, seq := p.2, dest := f.dest, cls := f.cls,
                      hops := f.hops, payload := s.payload f }))
    ∧ (∀ s : State, (s.radio.tx = none ∨ ∀ air, s.radio.onAir = some air → air.kind ≠ .burst) → exec .burstEnd s = .next s)
    ∧ (∀ (s : State) (ctx : TxCtx) (air : OnAir), s.radio.tx = some ctx → s.radio.onAir = some air → air.kind = .burst →
      exec .burstEnd s = .next { s with radio :=
        { s.radio with tx := some { ctx with phase := .listen }, onAir := none, txon := false, rxon := true } })
    ∧ (∀ (s : State) (command : Instr) (kind : AirKind), (command, kind) ∈ [(Instr.beaconEnd, AirKind.beacon), (.acksetEnd, .ackset)] →
      ((∀ air, s.radio.onAir = some air → air.kind ≠ kind) → exec command s = .next s)
        ∧ ∀ air, s.radio.onAir = some air → air.kind = kind →
          exec command s = .next { s with radio := { s.radio with onAir := none, txon := false } })
    ∧ (∀ s : State, (∀ o, s.sched.openSlot = some o → o.part = .tail) → exec .tailStart s = .next s)
    ∧ ∀ (s : State) (o : OpenSlot), s.sched.openSlot = some o → o.part ≠ .tail →
      let inTail := { s with sched := { s.sched with state := .running (.opened { o with part := .tail }) } }
      (s.radio.rx = none → exec .tailStart s = .next inTail)
        ∧ ∀ ctx, s.radio.rx = some ctx →
          let answers : Prop := ctx.heard = true ∧ (s.nbr ctx.nbr).state ≠ .vacant ∧ s.sched.holds = ⟨false, false, false⟩
          (¬ answers → exec .tailStart s = .next { inTail with radio := { s.radio with rxon := false } })
            ∧ ∀ i id, answers → s.part.identity = some i → (s.nbr ctx.nbr).nodeId = some id →
              exec .tailStart s = .next { inTail with radio :=
                { s.radio with
                  rxon := false, txon := true, sector := some ctx.sector,
                  onAir := some
                    { kind := .ackset, sector := ctx.sector, tier := 0,
                      frames := [[0x7E, 0x81, 0x5A, 0xA5, 0x3C, 0xC3]
                        ++ acksetBytes (BitVec.ofNat 16 i.nodeId) (BitVec.ofNat 16 id) ctx.acks] } } }

/-- A frame that ends in the tail of a TX slot in LISTEN is a failed one, a foreign one, the valid ACKSET, which the context keeps,
or a further one, which is ignored; after a retire of the neighbour it is ignored and counted nowhere (R104, R109). At any other
time it is not received. A dwell takes one quiet code, and after the guard every frame, counted as a beacon heard, as failed or as
another kind, each count up to 255; it keeps the first 16 beacons, in the order heard (R141). Where no dwell is open, and in the
guard of the slot, nothing is taken (log 1). -/
def Obligations.TailsAndDwellsTakeTheirFrames : Prop :=
  (∀ (s : State) (bytes : List Byte) (code : Code),
     let command : Instr := .acksetArrival bytes code
     ((∀ ctx o, s.radio.tx = some ctx → s.sched.openSlot = some o →
         ctx.phase = .listen → o.part = .tail → ctx.nbr = none) → exec command s = .next s)
       ∧ ∀ ctx o n, s.radio.tx = some ctx → s.sched.openSlot = some o → ctx.phase = .listen → o.part = .tail →
         ctx.nbr = some n →
         let isAckset := fun (f : AirFrame) (list : List Seq) => ∃ tx rx, f = .ackset tx rx list
           ∧ (∃ i, s.part.identity = some i ∧ i.nodeId = rx.toNat) ∧ (s.nbr n).nodeId = some tx.toNat
         (parseFrame bytes = none → exec command s = .next
             { s with store := { s.store with checkFail := min 65535 (s.store.checkFail + 1) } })
           ∧ (∀ f, parseFrame bytes = some f → (∀ list, ¬ isAckset f list) → exec command s = .next
             { s with store := { s.store with foreign := min 65535 (s.store.foreign + 1) } })
           ∧ ∀ f list, parseFrame bytes = some f → isAckset f list →
             (ctx.ackset = none → exec command s = .next
                 { s with radio := { s.radio with tx := some { ctx with ackset := some (code, list) } } })
               ∧ (ctx.ackset ≠ none → exec command s = .next s))
    ∧ ∀ s : State,
        ((∀ d, s.scan.state ≠ .dwelling d) → (∀ code, exec (.quietCode code) s = .next s)
            ∧ ∀ bytes code time, exec (.dwellFrameArrival bytes code time) s = .next s)
          ∧ ((∀ o, s.sched.openSlot = some o → o.part = .guard) →
              ∀ bytes code time, exec (.dwellFrameArrival bytes code time) s = .next s)
          ∧ ∀ d, s.scan.state = .dwelling d →
            let now := fun d : Dwell => { s with scan := { s.scan with state := .dwelling d } }
            (∀ code, exec (.quietCode code) s = .next (now { d with quiet := some (d.quiet.getD code) }))
              ∧ ∀ o bytes code time, s.sched.openSlot = some o → o.part ≠ .guard →
                (parseFrame bytes = none →
                    exec (.dwellFrameArrival bytes code time) s = .next (now { d with failed := min 255 (d.failed + 1) }))
                  ∧ (∀ f, parseFrame bytes = some f → (∀ id ep sl off, f ≠ .beacon id ep sl off) →
                    exec (.dwellFrameArrival bytes code time) s = .next (now { d with other := min 255 (d.other + 1) }))
                  ∧ ∀ id ep sl off, parseFrame bytes = some (.beacon id ep sl off) →
                    let b : HeardBeacon :=
                      { nodeId := id.toNat, epoch := ep, slot := sl, offset := off, code := code, localTime := time }
                    exec (.dwellFrameArrival bytes code time) s = .next (now { d with
                      heard := min 255 (d.heard + 1),
                      beacons := if d.beacons.length < 16 then d.beacons ++ [b] else d.beacons })

/-- The end of a slot: its owner's work runs whole, then the contexts are gone and the front end is released, and the next slot is
awaited, or after slot 31 the superframe boundary unless it was taken (R92, R99, R105 to R107, R109, R115, R142, R146; log 11).
That SLOT_END is taken in any part of the slot is log 4, and that it changes nothing without an open slot log 1.
An RX slot delivers its first code as a sample, or a miss; a TX slot settles its in-flight set and then delivers its ACKSET's
sample, or a miss; a SCAN slot ends its dwell; an idle slot, a BEACON slot, and a slot that has lost its context do nothing. -/
def Obligations.SlotEndsRunTheirOwnersWork : Prop :=
  (∀ s : State, s.sched.openSlot = none → exec .slotEnd s = .next s)
    ∧ ∀ (s : State) (o : OpenSlot), s.sched.openSlot = some o →
      let after : Progress :=
        if h : o.index.val < 31 then .awaitStart ⟨o.index.val + 1, Nat.succ_lt_succ h⟩
        else if o.boundaryTaken then .awaitStart 0 else .awaitBoundary
      let closed := fun u : State => { u with radio := Radio.off, sched := { u.sched with state := .running after } }
      let sampled := fun (c : Option Code) (sec : Sector) => c.map fun c =>
        max (-128) (min 383 ((c.toNat : Int) - ((s.mon.floors.look sec).toNat : Int)))
      (o.kind = .idle → exec .slotEnd s = .next (closed s))
        ∧ (∀ sec, o.kind = .beacon sec → exec .slotEnd s = .next (closed s))
        ∧ (∀ n, o.kind = .rx n → (s.radio.rx = none → exec .slotEnd s = .next (closed s))
            ∧ ∀ ctx, s.radio.rx = some ctx →
              exec .slotEnd s = .next (closed (s.observe ctx.nbr (sampled ctx.firstCode ctx.sector))))
        ∧ (∀ n, o.kind = .tx n → (s.radio.tx = none → exec .slotEnd s = .next (closed s))
            ∧ ∀ ctx, s.radio.tx = some ctx → (ctx.nbr = none → exec .slotEnd s = .next (closed s))
              ∧ ∀ m, ctx.nbr = some m →
                (ctx.content = .hold → exec .slotEnd s = .next
                    (closed (s.observe m (sampled (ctx.ackset.map (·.1)) ctx.sector))))
                  ∧ ∀ set, ctx.content = .frames set → exec .slotEnd s = .next
                    (closed ((s.settle m set ((ctx.ackset.map (·.2)).getD [])).observe m
                      (sampled (ctx.ackset.map (·.1)) ctx.sector))))
        ∧ (o.kind = .scan → ((∀ d, s.scan.state ≠ .dwelling d) → exec .slotEnd s = .next (closed s))
            ∧ ∀ d, s.scan.state = .dwelling d → exec .slotEnd s = .next (closed (s.dwellEnd d)))

/-- Settling an in-flight set against the sequences of the valid ACKSET, or against none: a listed frame leaves the queue and is
released; every other stays in its place with its retries raised, unless that passes the retry limit in force: then it is
discarded RETRY. The frames behind the set keep their order, and the counters rise to match (R105, R106). -/
def Obligations.SettlingAcknowledgesOrRetries : Prop :=
  ∀ (s : State) (n : NbrIdx) (set : List (Handle × Seq)) (behind : List Handle) (list : List Seq), StoreLaw s → CounterLaw s →
    s.queue n = set.map (·.1) ++ behind →
    let retries := fun h : Handle => match s.frame h with | none => 0 | some f => f.retries.getD 0 + 1
    let limit := s.mon.settings.retryLimit
    let missed := set.filter fun p => decide (p.2 ∉ list)
    let kept := missed.filter fun p => decide (retries p.1 ≤ limit)
    let t := s.settle n set list
    let was := (s.nbr n).counters
    let counted : NbrCounters :=
      { was with
        sent := min 65535 (was.sent + set.length)
        acked := min 65535 (was.acked + (set.length - missed.length))
        retries := min 65535 (was.retries + missed.length) }
    t.queue n = kept.map (·.1) ++ behind ∧ (∀ m, m ≠ n → t.queue m = s.queue m)
      ∧ (∀ p ∈ kept, t.frame p.1 = (s.frame p.1).map fun f => { f with retries := some (retries p.1) })
      ∧ (∀ p ∈ set, p ∉ kept → t.frame p.1 = none)
      ∧ (∀ h, h ∉ set.map (·.1) → t.frame h = s.frame h)
      ∧ t.nbr n = { s.nbr n with counters := counted } ∧ (∀ m, m ≠ n → t.nbr m = s.nbr m)
      ∧ t.store.discards = { s.store.discards with
          retry := min 65535 (s.store.discards.retry + (missed.length - kept.length)) }
      ∧ t.store.delivery = s.store.delivery ∧ t.store.mem = s.store.mem ∧ t.store.checkFail = s.store.checkFail
      ∧ t.store.foreign = s.store.foreign ∧ t.mon.settings = s.mon.settings ∧ t.mon.floors = s.mon.floors
      ∧ t.path = s.path ∧ t.link = s.link ∧ t.radio = s.radio ∧ t.sched = s.sched ∧ t.scan = s.scan ∧ t.part = s.part

/-- The superframe boundary, at the end of slot 31 before or after that end is taken (offered at any other time it changes nothing,
log 1): the count rises by 1 modulo 65536; a staged MAP SWITCH is decided and answered with the new count; every SEEKING neighbour ages, and one whose age has
reached the acquisition limit becomes LOST, in ascending order, each with its LINK notice and, where LOSS is a trigger source, a
trigger; then comes the BOUNDARY trigger, where it is one (R28, R118, R125, R129, R138; log 4, log 18). A READ in progress goes on,
its carry taking the posting of the notice it offers (R161). -/
def Obligations.BoundariesCountDecideAndAge : Prop :=
  ∀ s : State,
    let last := fun o : OpenSlot => s.sched.state = .running (.opened o) ∧ o.index = 31 ∧ o.boundaryTaken = false
    (s.sched.state ≠ .running .awaitBoundary → (∀ o, ¬ last o) → exec .superframeBoundary s = .next s)
      ∧ ∀ p : Progress,
        ((s.sched.state = .running .awaitBoundary ∧ p = .awaitStart 0)
          ∨ ∃ o, last o ∧ p = .opened { o with boundaryTaken := true }) →
        (∀ n, (s.nbr n).state = .seeking → s.queue n = []) →
        let other : Fin 2 := if s.sched.active = 0 then 1 else 0
        let sum := (s.sched.maps.look other).sum
        let switched : Prop := s.link.staged = true ∧ sum = 65535
        let older := fun r : Nbr => { r with age := min 255 (r.age + 1) }
        let lost := fun n : NbrIdx =>
          decide ((s.nbr n).state = .seeking) && decide (s.mon.settings.acqLimit ≤ min 255 ((s.nbr n).age + 1))
        let timedOut := (List.finRange 16).filter lost
        let triggers := (if s.scan.settings.loss then timedOut.length else 0) + (if s.scan.settings.boundary then 1 else 0)
        let triggered := (fun u : State => u.trigger.1)^[triggers] s
        ∃ t : State, exec .superframeBoundary s = .next t
          ∧ (switched → t.sched = { s.sched with state := .running p, count := s.sched.count + 1, active := other })
          ∧ (¬ switched → t.sched = { s.sched with state := .running p, count := s.sched.count + 1 })
          ∧ t.link.staged = false ∧ t.link.error = s.link.error
          ∧ (s.link.staged = false → t.link.reply = s.link.reply)
          ∧ (switched → t.link.reply =
              some { kind := some 0x14, code := .ok, body := .activeMapAt other (s.sched.count + 1) })
          ∧ (s.link.staged = true → ¬ switched → t.link.reply =
              some { kind := some 0x14, code := .mapfault, body := .mapFaultAt s.sched.active sum (s.sched.count + 1) })
          ∧ (∀ n, (s.nbr n).state ≠ .seeking → t.nbr n = s.nbr n)
          ∧ (∀ n, (s.nbr n).state = .seeking → lost n = false → t.nbr n = older (s.nbr n))
          ∧ (∀ n, lost n = true → t.nbr n = { older (s.nbr n) with state := .lost, fade := 0, good := 0, miss := 0 })
          ∧ t.link.notices = timedOut.foldl (fun set n =>
              let r := s.nbr n
              postInto (.link n) (.link n r.nodeId .lost .timeout r.sector r.epoch (r.acc.map fun a => a / 16))
                (some ⟨0, 0⟩) set) s.link.notices
          ∧ t.link.phase = timedOut.foldl (fun p n => match p with
              | .reading item record c =>
                if item = .notice (.link n) then
                  .reading item record
                    { postings := min 255 (c.postings + 1),
                      rescue := match c.rescue with
                        | none => some ⟨0, 0⟩
                        | some a => some ⟨min 65535 a.moved, min 65535 a.dropped⟩ }
                else .reading item record c
              | p => p) s.link.phase
          ∧ t.scan = triggered.scan ∧ t.radio = triggered.radio
          ∧ t.mon.settings = s.mon.settings ∧ t.mon.floors = s.mon.floors ∧ t.path = s.path ∧ t.store = s.store
          ∧ t.part = s.part

/-! ## Scheduler (07) -/

/-- TIMING SET, and what a beacon of the sync neighbour measures. Setting or clearing the sync neighbour clears both measurements
and DRIFT, with a notice where DRIFT was present (R130, R133). A beacon heard with the sync neighbour's node id gives
d = (local − stated) normalised into −S/2 + 1 .. S/2 with S = 32·L; it is the pending and the last measurement, DRIFT is present
exactly if |d| is above 40, and a change of DRIFT posts the SCHEDULER notice as any posting (PostingsAddOrUpdateInPlace); nothing
else changes, and any other beacon measures nothing (R119, R131, R133). -/
def Obligations.TimingFollowsTheSyncNeighbour : Prop :=
  (∀ (s : State) (index : Byte), s.accepting → 16 ≤ index.toNat → index ≠ 0xFF →
      exec (.timingSet index) s = .next (s.answered 0x17 .range .empty))
    ∧ (∀ (s : State) (n : NbrIdx), s.accepting → (s.nbr n).state = .vacant →
      exec (.timingSet (BitVec.ofNat 8 n.val)) s = .next (s.answered 0x17 .state .empty))
    ∧ (∀ (s : State) (sync : Option NbrIdx), s.accepting → (∀ n, sync = some n → (s.nbr n).state ≠ .vacant) →
      let index : Byte := match sync with | none => 0xFF | some n => BitVec.ofNat 8 n.val
      let drifted := s.sched.holds.drift
      let cleared : Scheduler :=
        { s.sched with sync := sync, pendingD := none, lastD := none, holds := { s.sched.holds with drift := false } }
      let notices :=
        if drifted then postInto .scheduler (.scheduler .syncCleared false sync none s.sched.count) none s.link.notices
        else s.link.notices
      exec (.timingSet index) s =
        .next ({ s with sched := cleared, link := { s.link with notices := notices } }.answered 0x17 .ok (.timing sync drifted)))
    ∧ ∀ (s : State) (b : HeardBeacon),
      ((∀ k, s.sched.sync = some k → (s.nbr k).nodeId ≠ some b.nodeId) → s.measure b = s)
        ∧ ∀ k, s.sched.sync = some k → (s.nbr k).nodeId = some b.nodeId → 0 < s.sched.slotLen →
          ∃ d m : Int, d = (b.localTime : Int) - (b.slot.toNat * s.sched.slotLen + b.offset.toNat) + m * (32 * s.sched.slotLen)
            ∧ -(16 * (s.sched.slotLen : Int)) < d ∧ d ≤ 16 * s.sched.slotLen
            ∧ (let drift := decide (40 < d.natAbs)
              let measured : State := { s with sched :=
                { s.sched with pendingD := some d, lastD := some d, holds := { s.sched.holds with drift := drift } } }
              (drift = s.sched.holds.drift → s.measure b = measured)
                ∧ (drift ≠ s.sched.holds.drift → s.measure b = measured.post .scheduler
                    (.scheduler (if drift then .driftSet else .driftCleared) drift (some k) (some d) s.sched.count) none))

/-- SLOT LENGTH: refused STATE while RUNNING; otherwise the value is brought into 250..4000 and down to a multiple of 50 (R116).
MAP WRITE: RANGE, then STATE for the active map while RUNNING, and neither map changes; otherwise the listed codes and the check
word carried replace those of the map, valid or not (R120, R121, R122). MAP READ reports a map as it stands (R123). -/
def Obligations.SlotLengthAndMapRequests : Prop :=
  ∀ s : State, s.accepting →
    (∀ v : Half, (s.sched.isRunning = true → exec (.slotLength v) s = .next (s.answered 0x11 .state .empty))
      ∧ (s.sched.isRunning = false → ∃ taken : Nat, 250 ≤ taken ∧ taken ≤ 4000 ∧ taken % 50 = 0
          ∧ (v.toNat < 250 → taken = 250) ∧ (4000 < v.toNat → taken = 4000)
          ∧ (250 ≤ v.toNat → v.toNat ≤ 4000 → taken ≤ v.toNat ∧ v.toNat < taken + 50)
          ∧ exec (.slotLength v) s = .next
            ({ s with sched := { s.sched with slotLen := taken } }.answered 0x11 .ok
              (.slotLength taken (decide (taken ≠ v.toNat))))))
    ∧ (∀ (map first has : Byte) (check : Half) (codes : List Half), 1 ≤ codes.length → codes.length ≤ 32 →
      let legalCode := fun c : Half => c.toNat = 0 ∨ (256 ≤ c.toNat ∧ c.toNat ≤ 271) ∨ (512 ≤ c.toNat ∧ c.toNat ≤ 527)
        ∨ (768 ≤ c.toNat ∧ c.toNat ≤ 773) ∨ c.toNat = 1024
      let legal : Prop := map.toNat ≤ 1 ∧ has.toNat ≤ 1 ∧ first.toNat ≤ 31 ∧ first.toNat + codes.length ≤ 32
        ∧ ∀ c ∈ codes, legalCode c
      let command : Instr := .mapWrite map first has check codes
      (¬ legal → exec command s = .next (s.answered 0x12 .range .empty))
        ∧ ∀ m : Fin 2, legal → map.toNat = m.val →
          (s.sched.isRunning = true → m = s.sched.active → exec command s = .next (s.answered 0x12 .state .empty))
            ∧ ((s.sched.isRunning = false ∨ m ≠ s.sched.active) → ∃ new : SlotMap,
                exec command s = .next ({ s with sched := { s.sched with maps := s.sched.maps.put m new } }.answered 0x12 .ok
                    (.mapWritten m (decide (new.sum = 65535)) new.sum))
                  ∧ (∀ (i : SlotIdx) (c : Half), first.toNat ≤ i.val → codes[i.val - first.toNat]? = some c →
                      new.codes.look i = c)
                  ∧ (∀ i : SlotIdx, (i.val < first.toNat ∨ first.toNat + codes.length ≤ i.val) →
                      new.codes.look i = (s.sched.maps.look m).codes.look i)
                  ∧ new.check = (if has = 1 then check else (s.sched.maps.look m).check)
                  ∧ new.sum.toNat = (((List.finRange 32).map fun i => (new.codes.look i).toNat).sum + new.check.toNat) % 65536))
    ∧ (∀ map : Byte, 1 < map.toNat → exec (.mapRead map) s = .next (s.answered 0x13 .range .empty))
    ∧ ∀ m : Fin 2,
      let t := s.sched.maps.look m
      exec (.mapRead (BitVec.ofNat 8 m.val)) s = .next
        (s.answered 0x13 .ok (.mapRead t (decide (t.sum = 65535)) t.sum (decide (m = s.sched.active))))

/-- MAP SWITCH while STOPPED makes the other map active if it is valid, and is refused MAPFAULT otherwise (R124); while RUNNING it is
staged: the request stays in service without a reply, and nothing else changes (R125). SCHEDULE START: STATE while RUNNING, MAPFAULT for an invalid active map, else RUNNING before slot 0 of superframe 0 (R126, log 3). SCHEDULE STOP:
STOPPED, the open slot aborted with its contexts, the pins released, an open dwell abandoned to ARMED on its sector, the pending
measurement dropped; the reply carries the count and the slot open (R94, R111, R114, R127, R146; between two slots log 5). That no
sector line stays asserted then is log 11, the model's choice. -/
def Obligations.SwitchStartAndStop : Prop :=
  ∀ s : State, s.accepting →
    let other : Fin 2 := if s.sched.active = 0 then 1 else 0
    let sum := (s.sched.maps.look other).sum
    let own := (s.sched.maps.look s.sched.active).sum
    (s.sched.isRunning = false → sum = 65535 → exec .mapSwitch s = .next
        ({ s with sched := { s.sched with active := other } }.answered 0x14 .ok (.activeMap other)))
      ∧ (s.sched.isRunning = false → sum ≠ 65535 →
        exec .mapSwitch s = .next (s.answered 0x14 .mapfault (.mapFault s.sched.active sum)))
      ∧ (s.sched.isRunning = true →
        exec .mapSwitch s = .next { s with link := { s.link with phase := .spent, staged := true } })
      ∧ (s.sched.isRunning = true → exec .scheduleStart s = .next (s.answered 0x15 .state .empty))
      ∧ (s.sched.isRunning = false → own ≠ 65535 →
        exec .scheduleStart s = .next (s.answered 0x15 .mapfault (.mapFault s.sched.active own)))
      ∧ (s.sched.isRunning = false → own = 65535 → exec .scheduleStart s = .next
        ({ s with sched := { s.sched with state := .running (.awaitStart 0), count := 0, pendingD := none } }.answered 0x15 .ok
          (.activeMap s.sched.active)))
      ∧ (s.sched.isRunning = false → exec .scheduleStop s = .next (s.answered 0x16 .ok (.stopped s.sched.count none)))
      ∧ ∀ p : Progress, s.sched.state = .running p →
        let slot : SlotIdx := match p with
          | .awaitStart i => i
          | .opened o => o.index
          | .awaitBoundary => 31
        let scan : ScanState := match s.scan.state with
          | .dwelling d => .armed d.sector
          | st => st
        exec .scheduleStop s = .next
          ({ s with
              radio := Radio.off
              scan := { s.scan with state := scan }
              sched := { s.sched with state := .stopped, pendingD := none } }.answered 0x16 .ok
            (.stopped s.sched.count (some slot)))

/-! ## Scanner and beacons (02, 08) -/

/-- SCAN SET: RANGE, then STATE outside IDLE; otherwise the five settings, and the ignored count 0 (R147). SCAN START is one
trigger, judged by state and mode: IDLE starts at the start sector; WAITING in STEP resumes at the next sector; ONCE restarts,
abandoning an open dwell; every other is ignored and counted (R139, R146, R148). SCAN HALT makes the scanner IDLE and abandons an
open dwell (R146, R149). R146 releases RXON at an abandoned dwell; that the sector is deselected with it is log 11, the model's
choice. -/
def Obligations.ScanRequestsFollowTheState : Prop :=
  ∀ s : State, s.accepting →
    let c := s.scan.settings
    let quiet : Radio := match s.scan.state with
      | .dwelling _ => { s.radio with rxon := false, sector := none }
      | _ => s.radio
    let restart := fun (outcome : ScanOutcome) =>
      { s with radio := quiet, scan := { s.scan with state := .armed c.start } }.answered 0x19 .ok
        (.scanStarted outcome .armed (some c.start) s.scan.ignored)
    let waits : Prop := ∃ a b, s.scan.state = .waiting a b
    (∀ mode start stop b l : Byte, 3 < mode.toNat ∨ 5 < start.toNat ∨ 5 < stop.toNat ∨ 1 < b.toNat ∨ 1 < l.toNat →
        exec (.scanSet mode start stop b l) s = .next (s.answered 0x18 .range (.scanRefused c s.scan.state.tag)))
      ∧ (∀ new : ScanSettings,
        let mode : Byte := match new.mode with
          | .once => 0
          | .onceLocked => 1
          | .repeat => 2
          | .step => 3
        let flag := fun f : Bool => if f then (1 : Byte) else 0
        let command : Instr :=
          .scanSet mode (BitVec.ofNat 8 new.start.val) (BitVec.ofNat 8 new.stop.val) (flag new.boundary) (flag new.loss)
        (s.scan.state ≠ .idle → exec command s = .next (s.answered 0x18 .state (.scanRefused c s.scan.state.tag)))
          ∧ (s.scan.state = .idle → exec command s = .next
            ({ s with scan := { s.scan with settings := new, ignored := 0 } }.answered 0x18 .ok (.scanSettings new))))
      ∧ (s.scan.state = .idle → exec .scanStart s = .next (restart .started))
      ∧ (∀ a b, s.scan.state = .waiting a b → c.mode = .step → exec .scanStart s = .next
          ({ s with scan := { s.scan with state := .armed b } }.answered 0x19 .ok
            (.scanStarted .resumed .armed (some b) s.scan.ignored)))
      ∧ (s.scan.state ≠ .idle → c.mode = .once → exec .scanStart s = .next (restart .restarted))
      ∧ (s.scan.state ≠ .idle → c.mode ≠ .once → (c.mode = .step → ¬ waits) → exec .scanStart s = .next
          ({ s with scan := { s.scan with ignored := min 65535 (s.scan.ignored + 1) } }.answered 0x19 .ok
            (.scanStarted .ignored s.scan.state.tag s.scan.state.current (min 65535 (s.scan.ignored + 1)))))
      ∧ exec .scanHalt s = .next
          ({ s with radio := quiet, scan := { s.scan with state := .idle } }.answered 0x1A .ok
            (.scanHalted s.scan.state.tag s.scan.state.current))

/-- The end of a dwell: the quiet code becomes the sector's noise floor; the beacons are handed over in the order heard, each to the
link monitor and then to the scheduler; the SCANNER notice joins the tail with the dwell's counts and at most 8 report lines, each
with its sample against that floor and the enrolled index or none; and the scanner moves on as its mode says (R2, R142, R143,
R144). That a dwell without a quiet code writes no floor and reports the one in force is log 23, the model's choice. -/
def Obligations.DwellEndsReportAndMoveOn : Prop :=
  ∀ (s : State) (d : Dwell),
    let floored : State := match d.quiet with
      | none => s
      | some c => { s with mon := { s.mon with floors := s.mon.floors.put d.sector c } }
    let floor := floored.mon.floors.look d.sector
    let handed := d.beacons.foldl (fun u b => (u.takeBeacon d.sector b).measure b) floored
    let c := s.scan.settings
    let onward : Sector := if h : d.sector.val < 5 then ⟨d.sector.val + 1, Nat.succ_lt_succ h⟩ else 0
    let next : ScanState := match c.mode with
      | .once => if d.sector = c.stop then .idle else .armed onward
      | .onceLocked => if d.sector = c.stop then .idle else .armed onward
      | .repeat => if d.sector = c.stop then .armed c.start else .armed onward
      | .step => .waiting d.sector (if d.sector = c.stop then c.start else onward)
    let line := fun b : HeardBeacon =>
      ({ nodeId := b.nodeId, epoch := b.epoch, sample := max (-128) (min 383 ((b.code.toNat : Int) - (floor.toNat : Int))),
         enrolled := s.nbrWithId b.nodeId } : ReportBeacon)
    let report : Notice :=
      { source := .scanner
        content := .scanner d.sector d.count d.slot floor ((d.beacons.map line).take 8) (decide (8 < d.heard)) d.heard
          d.failed d.other next.tag next.current next.next
        changes := 1
        rescue := none }
    let t := s.dwellEnd d
    t.scan = { handed.scan with state := next } ∧ handed.scan.settings = c
      ∧ t.mon = handed.mon ∧ handed.mon.floors = floored.mon.floors ∧ t.path = handed.path ∧ t.store = handed.store
      ∧ t.radio = handed.radio ∧ t.sched = handed.sched ∧ t.part = s.part
      ∧ t.link.reply = s.link.reply ∧ t.link.error = s.link.error ∧ t.link.staged = s.link.staged
      ∧ (s.isPending .scanner = false → t.link.notices = handed.link.notices ++ [report])

/-- One beacon at the link monitor: the sector margin; acquisition from SEEKING or LOST, into WEAK or, with another epoch, into
HELD; a restart in UP, WEAK or HELD; an observation on the neighbour's own sector; the handover test on another (R23 to R27). -/
def Obligations.BeaconsMoveTheNeighbour : Prop :=
  (∀ (s : State) (sec : Sector) (b : HeardBeacon),
      (∀ m, (s.nbr m).state = .vacant ∨ (s.nbr m).nodeId ≠ some b.nodeId) → s.takeBeacon sec b = s)
    ∧ ∀ (s : State) (sec : Sector) (b : HeardBeacon) (n : NbrIdx),
      (s.nbr n).state ≠ .vacant → (s.nbr n).nodeId = some b.nodeId →
      (∀ m, m ≠ n → (s.nbr m).state = .vacant ∨ (s.nbr m).nodeId ≠ some b.nodeId) →
      let x : Int := max (-128) (min 383 ((b.code.toNat : Int) - ((s.mon.floors.look sec).toNat : Int)))
      let c := s.mon.settings
      let r : Nbr := { s.nbr n with margins := (s.nbr n).margins.put sec (some x) }
      let loaded : Nbr := { r with sector := some sec, epoch := some b.epoch, acc := some (16 * x), reseed := false,
                                   fade := 0, good := 0, miss := 0 }
      let store := fun new : Nbr => { s with mon := { s.mon with nbrs := s.mon.nbrs.put n new } }
      let told := fun (u : State) (new : Nbr) (cause : LinkCause) =>
        u.post (.link n) (.link n (some b.nodeId) new.state cause (some sec) new.epoch (some x)) none
      let weak : Nbr := { loaded with state := .weak }
      let held : Nbr := { loaded with state := .held, high := none, seen := [] }
      let moved : Nbr := { loaded with epoch := r.epoch }
      let t := s.takeBeacon sec b
      (r.state.heard = false →
          (x < c.tR → t = store { r with sector := some (r.sector.getD sec) })
            ∧ (c.tR ≤ x → (r.epoch = none ∨ r.epoch = some b.epoch) → t = told (store weak) weak .acquired)
            ∧ (c.tR ≤ x → r.epoch ≠ none → r.epoch ≠ some b.epoch → t = told (store held) held .epoch))
        ∧ (r.state.heard = true →
          (r.epoch ≠ some b.epoch →
              (r.state ≠ .up → t = told (store held) held .epoch)
                ∧ (r.state = .up → ∃ entries, t = told { store held with path := { s.path with entries := entries } } held .epoch
                    ∧ ∀ i, entries.look i = match s.entry i with
                      | none => none
                      | some e => some { e with state :=
                          if e.state = .live ∧ e.action = .forward n then .parked else e.state }))
            ∧ (r.epoch = some b.epoch → r.sector = some sec → t = (store r).observe n (some x))
            ∧ ∀ a, r.epoch = some b.epoch → r.sector ≠ some sec → r.acc = some a →
              (c.tR ≤ x → a / 16 + c.hyst ≤ x → t = told (store moved) moved .handover)
                ∧ ((x < c.tR ∨ x < a / 16 + c.hyst) → t = store r))

/-! ## Identity, status, supply, starts (10) -/

/-- IDENTIFY: RANGE, then STATE; otherwise the identity is as carried and the IDENTITY hold removed (R168). STATUS reports the part
as it stands and clears the supply-dip latch (R171). -/
def Obligations.IdentifyAndStatus : Prop :=
  ∀ s : State, s.accepting →
    (∀ (nodeId : Half) (epoch : Byte),
      let legal : Prop := 1 ≤ nodeId.toNat ∧ nodeId.toNat ≤ 4094
      let free : Prop := s.sched.isRunning = false
        ∧ ∀ m, (s.nbr m).state = .vacant ∨ (s.nbr m).nodeId ≠ some nodeId.toNat
      let now : Identity := { nodeId := nodeId.toNat, epoch := epoch }
      (¬ legal → exec (.identify nodeId epoch) s =
          .next (s.answered 0x1B .range (.identifyRefused s.part.identity s.sched.isRunning)))
        ∧ (legal → ¬ free → exec (.identify nodeId epoch) s =
          .next (s.answered 0x1B .state (.identifyRefused s.part.identity s.sched.isRunning)))
        ∧ (legal → free → exec (.identify nodeId epoch) s = .next
          ({ s with part := { s.part with identity := some now }
                    sched := { s.sched with holds := { s.sched.holds with identity := false } } }.answered 0x1B .ok
            (.identified now s.part.identity s.sched.holds.identity))))
    ∧ ∃ report : StatusReport,
      exec .status s = .next ({ s with part := { s.part with latch := false } }.answered 0x1C .ok (.status report))
        ∧ report.cause = s.part.cause ∧ report.latch = s.part.latch ∧ report.level = s.part.supplyLow
        ∧ report.identity = s.part.identity ∧ report.running = s.sched.isRunning ∧ report.holds = s.sched.holds
        ∧ report.active = s.sched.active ∧ report.slotLen = s.sched.slotLen ∧ report.count = s.sched.count
        ∧ report.sync = s.sched.sync ∧ report.lastD = s.sched.lastD ∧ report.profile = s.path.active
        ∧ report.freeEntries = ((List.finRange 256).filter fun i => (s.entry i).isNone).length
        ∧ (∀ i, report.nextFree = some i ↔ s.entry i = none ∧ ∀ j, j < i → s.entry j ≠ none)
        ∧ (PageLaw s → report.freePages = s.store.pool.length)
        ∧ report.freeRecords = ((List.finRange 64).filter fun h => (s.frame h).isNone).length
        ∧ report.deliveryLen = s.store.delivery.length ∧ report.scanner = s.scan.state.tag
        ∧ report.current = s.scan.state.current ∧ report.ignored = s.scan.ignored

/-- An assertion of SUPPLY-LOW sets the hold and the latch, cuts the transmission on the air, aborts a TX slot in BURST, suppresses
a beacon not yet begun, and posts the SUPPLY notice with what was cut; a de-assertion removes the hold and posts the notice, and
the latch stays (R110, R114, R169, R170; a TX slot in its guard is in BURST, log 10; an edge to the level that stands already is
taken as any edge, log 31). During a start only the level is kept (R172; of the start of RESTART COLD by inference, log 20). -/
def Obligations.SupplyEdgesCutAndHold : Prop :=
  ∀ s : State,
    (s.part.starting ≠ none →
        exec .supplyLowAssertion s = .next { s with part := { s.part with supplyLow := true } }
          ∧ exec .supplyLowDeassertion s = .next { s with part := { s.part with supplyLow := false } })
      ∧ (s.part.starting = none →
        let cut : Cut := match s.radio.onAir with
          | none => .none
          | some air => match air.kind with
            | .burst => .burst
            | .ackset => .ackset
            | .beacon => .beacon
        let tx : Option TxCtx := match s.radio.tx with
          | none => none
          | some ctx => if ctx.phase = .burst then none else some ctx
        let low : State :=
          { s with
            part := { s.part with supplyLow := true, latch := true }
            sched := { s.sched with holds := { s.sched.holds with supply := true } }
            radio := { s.radio with tx := tx, beacon := none, onAir := none,
                                    txon := if s.radio.onAir.isSome then false else s.radio.txon } }
        let high : State :=
          { s with
            part := { s.part with supplyLow := false }
            sched := { s.sched with holds := { s.sched.holds with supply := false } } }
        exec .supplyLowAssertion s =
            .next (low.post .supply (.supply .asserted true true (some cut) s.sched.count) none)
          ∧ exec .supplyLowDeassertion s =
            .next (high.post .supply (.supply .released false s.part.latch none s.sched.count) none))

/-- The warm restart: settings, floors, maps, slot length, masks, scanner settings, identity, latch and sync neighbour are kept;
neighbours return to SEEKING with node id, sector, epoch and tier cap; LIVE FORWARD entries become PARKED; every frame is
released and every counter 0; the RESTART reply waits and the START notice alone is pending (R17, R40, R76, R117, R119, R135,
R164, R173, R174). A form other than COLD and WARM is refused RANGE (R173), and the command of that row with form 0 or 1 is that
form's (log 24). That no sector line is asserted after it is log 11. Both logs are the model's choices. -/
def Obligations.WarmRestartKeepsWhatTheHostSet : Prop :=
  ∀ s : State, s.accepting →
    (∀ form : Byte, 1 < form.toNat → exec (.restartRange form) s = .next (s.answered 0x1D .range .empty))
      ∧ exec (.restartRange 0) s = exec .restartCold s ∧ exec (.restartRange 1) s = exec .restartWarm s
      ∧ ∃ t : State, exec .restartWarm s = .next t
        ∧ t.mon.settings = s.mon.settings ∧ t.mon.floors = s.mon.floors
        ∧ (∀ n, (s.nbr n).state = .vacant → t.nbr n = Nbr.vacant)
        ∧ (∀ n, (s.nbr n).state ≠ .vacant → t.nbr n =
            { state := .seeking, nodeId := (s.nbr n).nodeId, sector := (s.nbr n).sector, epoch := (s.nbr n).epoch,
              acc := none, reseed := false, fade := 0, good := 0, miss := 0, cap := (s.nbr n).cap,
              margins := Tab.all 6 none, txSeq := 0, high := none, seen := [], age := 0,
              counters := ⟨0, 0, 0, 0, 0, 0, 0⟩ })
        ∧ (∀ i, t.entry i = match s.entry i with
            | none => none
            | some r => some { r with state :=
                if r.state = .live ∧ (∃ m, r.action = .forward m) then .parked else r.state })
        ∧ t.path.maskA = s.path.maskA ∧ t.path.maskB = s.path.maskB ∧ t.path.active = s.path.active
        ∧ t.path.lastMatch = none
        ∧ (∀ h, t.frame h = none) ∧ (∀ n, t.queue n = []) ∧ t.store.delivery = []
        ∧ t.store.pool.Perm (List.range 160) ∧ t.store.discards = ⟨0, 0, 0, 0, 0, 0, 0, 0⟩
        ∧ t.store.checkFail = 0 ∧ t.store.foreign = 0
        ∧ t.radio = { rx := none, tx := none, beacon := none, onAir := none, txon := false, rxon := false, sector := none }
        ∧ t.sched = { s.sched with
            state := .stopped, count := 0, pendingD := none, lastD := none,
            holds := { identity := s.sched.holds.identity, supply := s.part.supplyLow, drift := false } }
        ∧ t.scan = { s.scan with state := .idle, ignored := 0 }
        ∧ t.part = { s.part with cause := .warmRequest }
        ∧ t.link = { s.link with
            phase := .spent, error := false, staged := false,
            reply := some { kind := some 0x1D, code := .ok, body := .restarted s.part.identity s.sched.isRunning },
            notices := [{ source := .start
                          content := .start .warmRequest s.part.identity s.part.supplyLow s.part.latch
                          changes := 1
                          rescue := none }] }

/-- A cold start begins at power-on, at RESET and at RESTART COLD: the open slot, the dwell, a staged switch and the transaction end
without their effects, and the pins are released; a RESET during power-on keeps the cause POWER (R165, R172; log 21). At its
completion every block has its cold values and the START notice is pending (R2, R13, R17, R40, R41, R76, R117, R119, R121, R135,
R164, R167, R169, R172, R174). With no start in progress the completion changes nothing (log 1). The model's own: that no sector
line is asserted during a start and after it (log 11), and that RESTART COLD has a start of its own as RESET has (log 20). -/
def Obligations.ColdStartsTakeTheColdValues : Prop :=
  ∀ s : State,
    let begun := fun (cause : StartCause) =>
      { s with
        link := { s.link with phase := .none, staged := false, reply := none }
        radio := { rx := none, tx := none, beacon := none, onAir := none, txon := false, rxon := false, sector := none }
        sched := { s.sched with state := .stopped }
        scan := { s.scan with state := .idle }
        part := { s.part with starting := some cause } }
    let low := fun u : State => { u with part := { u.part with resetLow := true } }
    (s.accepting → exec .restartCold s = .next (begun .coldRequest))
      ∧ exec .powerOn s = .next (begun .power)
      ∧ (s.part.starting ≠ some .power → exec .reset s = .next (low (begun .pin)))
      ∧ (s.part.starting = some .power → exec .reset s = .next (low s))
      ∧ (s.part.starting = none → exec .coldStartCompletion s = .next s)
      ∧ ∀ cause, s.part.starting = some cause → ∃ t : State, exec .coldStartCompletion s = .next t
        ∧ t.mon.settings =
          { k := 2, tF := 24, tR := 40, wF := 4, wR := 6, missLimit := 8, t1 := 48, t2 := 80, t3 := 112, hyst := 16,
            retryLimit := 4, acqLimit := 64, queueLimit := 12 }
        ∧ (∀ sec, t.mon.floors.look sec = 160)
        ∧ (∀ n, t.nbr n =
            { state := .vacant, nodeId := none, sector := none, epoch := none, acc := none, reseed := false, fade := 0,
              good := 0, miss := 0, cap := 3, margins := Tab.all 6 none, txSeq := 0, high := none, seen := [], age := 0,
              counters := ⟨0, 0, 0, 0, 0, 0, 0⟩ })
        ∧ (∀ i, t.entry i = none) ∧ t.path.maskA = ⟨0, false, false⟩ ∧ t.path.maskB = ⟨0, false, false⟩
        ∧ t.path.active = .a ∧ t.path.lastMatch = none
        ∧ (∀ h, t.frame h = none) ∧ (∀ n, t.queue n = []) ∧ t.store.delivery = []
        ∧ t.store.pool.Perm (List.range 160) ∧ t.store.discards = ⟨0, 0, 0, 0, 0, 0, 0, 0⟩
        ∧ t.store.checkFail = 0 ∧ t.store.foreign = 0
        ∧ t.radio = { rx := none, tx := none, beacon := none, onAir := none, txon := false, rxon := false, sector := none }
        ∧ t.sched.state = .stopped ∧ t.sched.count = 0 ∧ t.sched.holds = ⟨true, s.part.supplyLow, false⟩
        ∧ (∀ m i, (t.sched.maps.look m).codes.look i = 0) ∧ (∀ m, (t.sched.maps.look m).check = 65535)
        ∧ (∀ m, (t.sched.maps.look m).sum = 65535)
        ∧ t.sched.active = 0 ∧ t.sched.slotLen = 1000 ∧ t.sched.sync = none ∧ t.sched.pendingD = none ∧ t.sched.lastD = none
        ∧ t.scan = { settings := ⟨.once, 0, 5, false, false⟩, state := .idle, ignored := 0 }
        ∧ t.part = { identity := none, latch := false, supplyLow := s.part.supplyLow, resetLow := false, cause := cause,
                     starting := none }
        ∧ t.link = { phase := .none, error := false, staged := false, reply := none,
                     notices := [{ source := .start, content := .start cause none s.part.supplyLow false, changes := 1,
                                   rescue := none }] }

/-! ## Air frames (11) -/

/-- The frames this part sends are read back as they were meant, whatever follows their check (log 13), and a frame cut short
fails (R79, R103, R113, R176). Behind the start delimiter a DATA frame has 24 + length bytes, a HOLD frame 24, an ACKSET of at
most 8 sequences 33 and a BEACON 18, and they occupy the air ticks of R10 at the tier sent, the last two 584 and 464 at tier 0
(R9, R10, R176). -/
def Obligations.AirFramesReadBack : Prop :=
  (∀ (bytes extra : List Byte) (f : AirFrame),
    ((∃ d : DataFrame, bytes = dataBytes d ∧ f = .data d ∧ 1 ≤ d.payload.length ∧ d.payload.length ≤ 1440
          ∧ d.dest ≠ 0 ∧ d.dest ≠ 4095)
      ∨ (∃ tx rx, bytes = holdBytes tx rx ∧ f = .hold tx rx)
      ∨ (∃ tx rx list, bytes = acksetBytes tx rx list ∧ f = .ackset tx rx list ∧ list.length ≤ 8)
      ∨ (∃ (id : Half) (ep sl : Byte) (off : Half), bytes = beaconBytes id ep sl off ∧ f = .beacon id ep sl off
          ∧ 1 ≤ id.toNat ∧ id.toNat ≤ 4094)) →
    parseFrame (bytes ++ extra) = some f ∧ ∀ k, k < bytes.length → parseFrame (bytes.take k) = none)
    ∧ ∀ (d : DataFrame) (tx rx : Half) (list : List Seq) (id off : Half) (ep sl : Byte) (t : Fin 4), list.length ≤ 8 →
      let sent := fun frame : List Byte => [0x7E, 0x81, 0x5A, 0xA5, 0x3C, 0xC3] ++ frame
      (∀ frame : List Byte, delimited frame = sent frame)
        ∧ (sent (dataBytes d)).length = 24 + d.payload.length ∧ (sent (holdBytes tx rx)).length = 24
        ∧ (sent (acksetBytes tx rx list)).length = 33 ∧ (sent (beaconBytes id ep sl off)).length = 18
        ∧ frameTicks t (sent (dataBytes d)) = 320 + (24 + d.payload.length) * (8 / 2 ^ t.val)
        ∧ frameTicks t (sent (holdBytes tx rx)) = 320 + 24 * (8 / 2 ^ t.val)
        ∧ frameTicks 0 (sent (acksetBytes tx rx list)) = 584 ∧ frameTicks 0 (sent (beaconBytes id ep sl off)) = 464

/-! ## Laws that every step keeps -/

/-- The part obeys every law right after reset. Two of the values it has there are the model's choice: no sector line is asserted
(log 11), and SUPPLY-LOW is not (log 15). -/
def Obligations.ResetIsLawful : Prop := Lawful State.reset

/-- Every step keeps the page memory in its canonical form, and every page free or held by exactly one frame record of the right
number of pages (R62, R65). -/
def Obligations.StepsKeepTheStorage : Prop :=
  ∀ s t : State, MemoryLaw s → PageLaw s → step s = .next t → MemoryLaw t ∧ PageLaw t

/-- Every step keeps the laws of the path table: no FORWARD entry names a VACANT neighbour, a LIVE one names an UP neighbour, and a
PARKED one is FORWARD and names a neighbour that is not UP (R39, R58, R59, R60). -/
def Obligations.StepsKeepThePathTable : Prop :=
  ∀ s t : State, PathLaw s → step s = .next t → PathLaw t

/-- Every step keeps the laws of the queues: every stored frame in exactly one place, empty queues for neighbours that are VACANT,
SEEKING or LOST, and in-flight sets at the head of their queue (R63, R66, R67, R99). -/
def Obligations.StepsKeepTheQueues : Prop :=
  ∀ s t : State, PathLaw s → SettingsLaw s → PortLaw s → StoreLaw s → step s = .next t → StoreLaw t

/-- Every step keeps the laws of the neighbour table (R16, R17, R30, R168). -/
def Obligations.StepsKeepTheNeighbours : Prop :=
  ∀ s t : State, PathLaw s → StoreLaw s → NeighbourLaw s → step s = .next t → NeighbourLaw t

/-- Every step keeps one notice per source, no two replies in the reply place, and the offered item in its place until a READ takes
it (R34, R125, R152, R157 to R159). That a switch is staged only while RUNNING is R125; that no transaction runs during a start
is R172, and of the start of RESTART COLD an inference, log 20. -/
def Obligations.StepsKeepTheHostLink : Prop :=
  ∀ s t : State, NoticeLaw s → PortLaw s → step s = .next t → NoticeLaw t ∧ PortLaw t

/-- Every step keeps every margin, window, setting and counter within its range (R4, R6, R13, R16, R33, R44, R72, R82, R135). -/
def Obligations.StepsKeepTheRanges : Prop :=
  ∀ s t : State, MarginLaw s → WindowLaw s → SettingsLaw s → CounterLaw s → step s = .next t →
    MarginLaw t ∧ WindowLaw t ∧ SettingsLaw t ∧ CounterLaw t

/-- Every step keeps the laws of the scheduler, the front end and the scanner: holds, maps and corrections, one owner of the front
end at a time, and a dwell only in an open SCAN slot (R78, R99, R115, R117, R119, R121, R132, R137, R141, R167). That no
sector line is asserted while no slot is open is log 11, the model's choice. -/
def Obligations.StepsKeepTheSchedule : Prop :=
  ∀ s t : State, HoldLaw s → MapLaw s → CorrectionLaw s → FrontEndLaw s → ScannerLaw s → step s = .next t →
    HoldLaw t ∧ MapLaw t ∧ CorrectionLaw t ∧ FrontEndLaw t ∧ ScannerLaw t
end

