-- ==== Sys2Proof/Laws/Memory.lean ====
section
/-! SUPPORT. The page memory: a read after a write, and that every operation keeps the canonical form. -/

namespace Sys2Proof.Machine

open Sys2Proof

/-! ## The canonical form -/

/-- A memory above a bound is above every lower bound. -/
theorem Memory.wfAbove_mono {m : List Host.Cell} {lo : Nat} {lo' : Option Nat} (h : Memory.wfAbove (some lo) m = true)
    (hl : ∀ l, lo' = some l → l ≤ lo) : Memory.wfAbove lo' m = true := by
  cases m with
  | nil => rfl
  | cons c rest =>
    obtain ⟨b, v⟩ := c
    simp only [Memory.wfAbove, Bool.and_eq_true, decide_eq_true_eq] at h ⊢
    refine ⟨⟨?_, h.1.2⟩, h.2⟩
    cases lo' with
    | none => rfl
    | some l =>
      have := hl l rfl
      simp only [decide_eq_true_eq]
      omega

/-- A write at an address above the bound keeps the form above that bound. -/
theorem Memory.wfAbove_write {m : List Host.Cell} {lo : Option Nat} {a : Nat} (v : Byte)
    (h : Memory.wfAbove lo m = true) (ha : ∀ l, lo = some l → l < a) : Memory.wfAbove lo (memWrite m a v) = true := by
  induction m generalizing lo with
  | nil =>
    simp only [memWrite]
    split
    · rfl
    · next hv =>
      simp only [Memory.wfAbove, Bool.and_eq_true, decide_eq_true_eq, and_true]
      refine ⟨?_, hv⟩
      cases lo with
      | none => rfl
      | some l => simpa using ha l rfl
  | cons c rest ih =>
    obtain ⟨b, w⟩ := c
    simp only [Memory.wfAbove, Bool.and_eq_true, decide_eq_true_eq] at h
    obtain ⟨⟨hlo, hw⟩, hrest⟩ := h
    simp only [memWrite]
    split
    · next hab =>
      split
      · simp only [Memory.wfAbove, Bool.and_eq_true, decide_eq_true_eq]
        exact ⟨⟨hlo, hw⟩, hrest⟩
      · next hv =>
        simp only [Memory.wfAbove, Bool.and_eq_true, decide_eq_true_eq]
        refine ⟨⟨?_, hv⟩, ⟨hab, hw⟩, hrest⟩
        cases lo with
        | none => rfl
        | some l => simpa using ha l rfl
    · split
      · next hab heq =>
        subst heq
        split
        · exact Memory.wfAbove_mono hrest fun l hl => by
            subst hl
            simp only [decide_eq_true_eq] at hlo
            omega
        · next hv =>
          simp only [Memory.wfAbove, Bool.and_eq_true, decide_eq_true_eq]
          exact ⟨⟨hlo, hv⟩, hrest⟩
      · next hab heq =>
        simp only [Memory.wfAbove, Bool.and_eq_true, decide_eq_true_eq]
        refine ⟨⟨hlo, hw⟩, ih hrest fun l hl => ?_⟩
        injection hl with hl
        omega

/-- A write keeps the canonical form. -/
theorem Memory.wf_write {m : List Host.Cell} (h : Memory.wf m = true) (a : Nat) (v : Byte) :
    Memory.wf (memWrite m a v) = true :=
  Memory.wfAbove_write v h fun _ hl => nomatch hl

theorem Memory.wf_writeBytes {m : List Host.Cell} (h : Memory.wf m = true) (a : Nat) (bytes : List Byte) :
    Memory.wf (memWriteBytes m a bytes) = true := by
  induction bytes generalizing m a with
  | nil => exact h
  | cons v rest ih => exact ih (Memory.wf_write h a v) (a + 1)

theorem Memory.wf_writePages {m : List Host.Cell} (h : Memory.wf m = true) (pages : List Nat) (bytes : List Byte) :
    Memory.wf (writePages m pages bytes) = true := by
  induction pages generalizing m bytes with
  | nil => exact h
  | cons p ps ih => exact ih (Memory.wf_writeBytes h _ _) _

/-- The memory after reset lists nothing, and so has the form. -/
theorem Memory.wf_reset : Memory.wf State.reset.store.mem = true := rfl

/-! ## Reading after writing -/

/-- Below its bound a memory lists nothing. -/
theorem memRead_below {m : List Host.Cell} {lo a : Nat} (h : Memory.wfAbove (some lo) m = true) (ha : a ≤ lo) :
    memRead m a = unlistedByte := by
  induction m generalizing lo with
  | nil => rfl
  | cons c rest ih =>
    obtain ⟨b, v⟩ := c
    simp only [Memory.wfAbove, Bool.and_eq_true, decide_eq_true_eq] at h
    simp only [memRead]
    rw [if_neg (by omega)]
    exact ih h.2 (by omega)

/-- A read gives the byte last written at its address, and every other address reads as before. -/
theorem memRead_write {m : List Host.Cell} {lo : Option Nat} (h : Memory.wfAbove lo m = true) (a b : Nat) (v : Byte) :
    memRead (memWrite m a v) b = if b = a then v else memRead m b := by
  induction m generalizing lo with
  | nil =>
    simp only [memWrite]
    split
    · next hv => simp only [memRead]; split <;> simp [*]
    · simp only [memRead]
  | cons c rest ih =>
    obtain ⟨d, w⟩ := c
    simp only [Memory.wfAbove, Bool.and_eq_true, decide_eq_true_eq] at h
    obtain ⟨-, hrest⟩ := h
    simp only [memWrite]
    split
    · next had =>
      split
      · next hv =>
        subst hv
        split
        · next hb =>
          subst hb
          simp only [memRead]
          rw [if_neg (by omega)]
          exact memRead_below hrest (by omega)
        · rfl
      · simp only [memRead]
    · split
      · next had heq =>
        subst heq
        split
        · next hv =>
          subst hv
          split
          · next hb => subst hb; exact memRead_below hrest (Nat.le_refl _)
          · next hb => simp only [memRead]; rw [if_neg hb]
        · simp only [memRead]; split <;> rfl
      · next had heq =>
        simp only [memRead]
        split
        · next hb => rw [if_neg (by omega)]
        · exact ih hrest

theorem memRead_write_wf {m : List Host.Cell} (h : Memory.wf m = true) (a b : Nat) (v : Byte) :
    memRead (memWrite m a v) b = if b = a then v else memRead m b := memRead_write h a b v

/-- Outside the bytes written every address reads as before; inside it reads the byte written there. -/
theorem memRead_writeBytes {m : List Host.Cell} (h : Memory.wf m = true) (a b : Nat) (bytes : List Byte) :
    memRead (memWriteBytes m a bytes) b = if a ≤ b then (bytes[b - a]?).getD (memRead m b) else memRead m b := by
  induction bytes generalizing m a with
  | nil => simp [memWriteBytes]
  | cons v rest ih =>
    simp only [memWriteBytes]
    rw [ih (Memory.wf_write h a v), memRead_write_wf h]
    rcases Nat.lt_trichotomy b a with hb | hb | hb
    · rw [if_neg (by omega), if_neg (by omega), if_neg (by omega)]
    · subst hb
      rw [if_neg (by omega), if_pos rfl, if_pos (Nat.le_refl _)]
      simp
    · have hs : b - a = (b - (a + 1)) + 1 := by omega
      have h1 : a + 1 ≤ b := by omega
      have h2 : a ≤ b := by omega
      have h3 : b ≠ a := by omega
      simp only [h1, h2, h3, if_true, if_false]
      rw [hs]
      simp

/-- Reading `n` bytes gives the byte at each address. -/
theorem memReadBytes_getElem? (m : List Host.Cell) (a n i : Nat) :
    (memReadBytes m a n)[i]? = if i < n then some (memRead m (a + i)) else none := by
  induction n generalizing a i with
  | zero => simp [memReadBytes]
  | succ n ih =>
    simp only [memReadBytes]
    cases i with
    | zero => simp
    | succ i =>
      simp only [List.getElem?_cons_succ]
      rw [ih]
      by_cases hi : i < n
      · rw [if_pos hi, if_pos (by omega)]
        congr 2
        omega
      · rw [if_neg hi, if_neg (by omega)]

theorem memReadBytes_length (m : List Host.Cell) (a n : Nat) : (memReadBytes m a n).length = n := by
  induction n generalizing a with
  | zero => rfl
  | succ n ih => simp [memReadBytes, ih]

/-- A run of bytes reads back as written. -/
theorem memReadBytes_writeBytes {m : List Host.Cell} (h : Memory.wf m = true) (a : Nat) (bytes : List Byte) :
    memReadBytes (memWriteBytes m a bytes) a bytes.length = bytes := by
  apply List.ext_getElem?
  intro i
  rw [memReadBytes_getElem?]
  split
  · next hi =>
    rw [memRead_writeBytes h, if_pos (by omega)]
    have : a + i - a = i := by omega
    rw [this]
    simp [hi]
  · next hi => simp [List.getElem?_eq_none (Nat.le_of_not_lt hi)]

end Sys2Proof.Machine
end

