-- ==== Sys2Proof/Laws/State.lean ====
section
/-! SUPPORT. One lemma for each block of the state and each update, true by definition: later proofs rewrite with these and
unfold no record update. -/

namespace Sys2Proof.Machine

variable (s : State)

@[simp] theorem State.setNbr_link (n : NbrIdx) (r : Nbr) : (s.setNbr n r).link = s.link := rfl
@[simp] theorem State.setNbr_mon (n : NbrIdx) (r : Nbr) : (s.setNbr n r).mon = { s.mon with nbrs := s.mon.nbrs.put n r } := rfl
@[simp] theorem State.setNbr_path (n : NbrIdx) (r : Nbr) : (s.setNbr n r).path = s.path := rfl
@[simp] theorem State.setNbr_store (n : NbrIdx) (r : Nbr) : (s.setNbr n r).store = s.store := rfl
@[simp] theorem State.setNbr_radio (n : NbrIdx) (r : Nbr) : (s.setNbr n r).radio = s.radio := rfl
@[simp] theorem State.setNbr_sched (n : NbrIdx) (r : Nbr) : (s.setNbr n r).sched = s.sched := rfl
@[simp] theorem State.setNbr_scan (n : NbrIdx) (r : Nbr) : (s.setNbr n r).scan = s.scan := rfl
@[simp] theorem State.setNbr_part (n : NbrIdx) (r : Nbr) : (s.setNbr n r).part = s.part := rfl
@[simp] theorem State.setNbr_pending (n : NbrIdx) (r : Nbr) : (s.setNbr n r).pending = s.pending := rfl

@[simp] theorem State.modNbr_link (n : NbrIdx) (f : Nbr → Nbr) : (s.modNbr n f).link = s.link := rfl
@[simp] theorem State.modNbr_mon (n : NbrIdx) (f : Nbr → Nbr) : (s.modNbr n f).mon = { s.mon with nbrs := s.mon.nbrs.put n (f (s.nbr n)) } := rfl
@[simp] theorem State.modNbr_path (n : NbrIdx) (f : Nbr → Nbr) : (s.modNbr n f).path = s.path := rfl
@[simp] theorem State.modNbr_store (n : NbrIdx) (f : Nbr → Nbr) : (s.modNbr n f).store = s.store := rfl
@[simp] theorem State.modNbr_radio (n : NbrIdx) (f : Nbr → Nbr) : (s.modNbr n f).radio = s.radio := rfl
@[simp] theorem State.modNbr_sched (n : NbrIdx) (f : Nbr → Nbr) : (s.modNbr n f).sched = s.sched := rfl
@[simp] theorem State.modNbr_scan (n : NbrIdx) (f : Nbr → Nbr) : (s.modNbr n f).scan = s.scan := rfl
@[simp] theorem State.modNbr_part (n : NbrIdx) (f : Nbr → Nbr) : (s.modNbr n f).part = s.part := rfl
@[simp] theorem State.modNbr_pending (n : NbrIdx) (f : Nbr → Nbr) : (s.modNbr n f).pending = s.pending := rfl

@[simp] theorem State.setEntry_link (i : EntryIdx) (e : Entry) : (s.setEntry i e).link = s.link := rfl
@[simp] theorem State.setEntry_mon (i : EntryIdx) (e : Entry) : (s.setEntry i e).mon = s.mon := rfl
@[simp] theorem State.setEntry_path (i : EntryIdx) (e : Entry) : (s.setEntry i e).path = { s.path with entries := s.path.entries.put i e } := rfl
@[simp] theorem State.setEntry_store (i : EntryIdx) (e : Entry) : (s.setEntry i e).store = s.store := rfl
@[simp] theorem State.setEntry_radio (i : EntryIdx) (e : Entry) : (s.setEntry i e).radio = s.radio := rfl
@[simp] theorem State.setEntry_sched (i : EntryIdx) (e : Entry) : (s.setEntry i e).sched = s.sched := rfl
@[simp] theorem State.setEntry_scan (i : EntryIdx) (e : Entry) : (s.setEntry i e).scan = s.scan := rfl
@[simp] theorem State.setEntry_part (i : EntryIdx) (e : Entry) : (s.setEntry i e).part = s.part := rfl
@[simp] theorem State.setEntry_pending (i : EntryIdx) (e : Entry) : (s.setEntry i e).pending = s.pending := rfl

@[simp] theorem State.setQueue_link (n : NbrIdx) (q : List Handle) : (s.setQueue n q).link = s.link := rfl
@[simp] theorem State.setQueue_mon (n : NbrIdx) (q : List Handle) : (s.setQueue n q).mon = s.mon := rfl
@[simp] theorem State.setQueue_path (n : NbrIdx) (q : List Handle) : (s.setQueue n q).path = s.path := rfl
@[simp] theorem State.setQueue_store (n : NbrIdx) (q : List Handle) : (s.setQueue n q).store = { s.store with queues := s.store.queues.put n q } := rfl
@[simp] theorem State.setQueue_radio (n : NbrIdx) (q : List Handle) : (s.setQueue n q).radio = s.radio := rfl
@[simp] theorem State.setQueue_sched (n : NbrIdx) (q : List Handle) : (s.setQueue n q).sched = s.sched := rfl
@[simp] theorem State.setQueue_scan (n : NbrIdx) (q : List Handle) : (s.setQueue n q).scan = s.scan := rfl
@[simp] theorem State.setQueue_part (n : NbrIdx) (q : List Handle) : (s.setQueue n q).part = s.part := rfl
@[simp] theorem State.setQueue_pending (n : NbrIdx) (q : List Handle) : (s.setQueue n q).pending = s.pending := rfl

@[simp] theorem State.setFrame_link (h : Handle) (f : Option FrameRec) : (s.setFrame h f).link = s.link := rfl
@[simp] theorem State.setFrame_mon (h : Handle) (f : Option FrameRec) : (s.setFrame h f).mon = s.mon := rfl
@[simp] theorem State.setFrame_path (h : Handle) (f : Option FrameRec) : (s.setFrame h f).path = s.path := rfl
@[simp] theorem State.setFrame_store (h : Handle) (f : Option FrameRec) : (s.setFrame h f).store = { s.store with frames := s.store.frames.put h f } := rfl
@[simp] theorem State.setFrame_radio (h : Handle) (f : Option FrameRec) : (s.setFrame h f).radio = s.radio := rfl
@[simp] theorem State.setFrame_sched (h : Handle) (f : Option FrameRec) : (s.setFrame h f).sched = s.sched := rfl
@[simp] theorem State.setFrame_scan (h : Handle) (f : Option FrameRec) : (s.setFrame h f).scan = s.scan := rfl
@[simp] theorem State.setFrame_part (h : Handle) (f : Option FrameRec) : (s.setFrame h f).part = s.part := rfl
@[simp] theorem State.setFrame_pending (h : Handle) (f : Option FrameRec) : (s.setFrame h f).pending = s.pending := rfl

@[simp] theorem State.setRadio_link (r : Radio) : (s.setRadio r).link = s.link := rfl
@[simp] theorem State.setRadio_mon (r : Radio) : (s.setRadio r).mon = s.mon := rfl
@[simp] theorem State.setRadio_path (r : Radio) : (s.setRadio r).path = s.path := rfl
@[simp] theorem State.setRadio_store (r : Radio) : (s.setRadio r).store = s.store := rfl
@[simp] theorem State.setRadio_radio (r : Radio) : (s.setRadio r).radio = r := rfl
@[simp] theorem State.setRadio_sched (r : Radio) : (s.setRadio r).sched = s.sched := rfl
@[simp] theorem State.setRadio_scan (r : Radio) : (s.setRadio r).scan = s.scan := rfl
@[simp] theorem State.setRadio_part (r : Radio) : (s.setRadio r).part = s.part := rfl
@[simp] theorem State.setRadio_pending (r : Radio) : (s.setRadio r).pending = s.pending := rfl

@[simp] theorem State.setSched_link (c : Scheduler) : (s.setSched c).link = s.link := rfl
@[simp] theorem State.setSched_mon (c : Scheduler) : (s.setSched c).mon = s.mon := rfl
@[simp] theorem State.setSched_path (c : Scheduler) : (s.setSched c).path = s.path := rfl
@[simp] theorem State.setSched_store (c : Scheduler) : (s.setSched c).store = s.store := rfl
@[simp] theorem State.setSched_radio (c : Scheduler) : (s.setSched c).radio = s.radio := rfl
@[simp] theorem State.setSched_sched (c : Scheduler) : (s.setSched c).sched = c := rfl
@[simp] theorem State.setSched_scan (c : Scheduler) : (s.setSched c).scan = s.scan := rfl
@[simp] theorem State.setSched_part (c : Scheduler) : (s.setSched c).part = s.part := rfl
@[simp] theorem State.setSched_pending (c : Scheduler) : (s.setSched c).pending = s.pending := rfl

@[simp] theorem State.setScan_link (c : Scanner) : (s.setScan c).link = s.link := rfl
@[simp] theorem State.setScan_mon (c : Scanner) : (s.setScan c).mon = s.mon := rfl
@[simp] theorem State.setScan_path (c : Scanner) : (s.setScan c).path = s.path := rfl
@[simp] theorem State.setScan_store (c : Scanner) : (s.setScan c).store = s.store := rfl
@[simp] theorem State.setScan_radio (c : Scanner) : (s.setScan c).radio = s.radio := rfl
@[simp] theorem State.setScan_sched (c : Scanner) : (s.setScan c).sched = s.sched := rfl
@[simp] theorem State.setScan_scan (c : Scanner) : (s.setScan c).scan = c := rfl
@[simp] theorem State.setScan_part (c : Scanner) : (s.setScan c).part = s.part := rfl
@[simp] theorem State.setScan_pending (c : Scanner) : (s.setScan c).pending = s.pending := rfl

@[simp] theorem State.setLink_link (l : HostLink) : (s.setLink l).link = l := rfl
@[simp] theorem State.setLink_mon (l : HostLink) : (s.setLink l).mon = s.mon := rfl
@[simp] theorem State.setLink_path (l : HostLink) : (s.setLink l).path = s.path := rfl
@[simp] theorem State.setLink_store (l : HostLink) : (s.setLink l).store = s.store := rfl
@[simp] theorem State.setLink_radio (l : HostLink) : (s.setLink l).radio = s.radio := rfl
@[simp] theorem State.setLink_sched (l : HostLink) : (s.setLink l).sched = s.sched := rfl
@[simp] theorem State.setLink_scan (l : HostLink) : (s.setLink l).scan = s.scan := rfl
@[simp] theorem State.setLink_part (l : HostLink) : (s.setLink l).part = s.part := rfl
@[simp] theorem State.setLink_pending (l : HostLink) : (s.setLink l).pending = s.pending := rfl

@[simp] theorem State.setPath_link (t : PathTable) : (s.setPath t).link = s.link := rfl
@[simp] theorem State.setPath_mon (t : PathTable) : (s.setPath t).mon = s.mon := rfl
@[simp] theorem State.setPath_path (t : PathTable) : (s.setPath t).path = t := rfl
@[simp] theorem State.setPath_store (t : PathTable) : (s.setPath t).store = s.store := rfl
@[simp] theorem State.setPath_radio (t : PathTable) : (s.setPath t).radio = s.radio := rfl
@[simp] theorem State.setPath_sched (t : PathTable) : (s.setPath t).sched = s.sched := rfl
@[simp] theorem State.setPath_scan (t : PathTable) : (s.setPath t).scan = s.scan := rfl
@[simp] theorem State.setPath_part (t : PathTable) : (s.setPath t).part = s.part := rfl
@[simp] theorem State.setPath_pending (t : PathTable) : (s.setPath t).pending = s.pending := rfl

@[simp] theorem State.setPart_link (p : Part) : (s.setPart p).link = s.link := rfl
@[simp] theorem State.setPart_mon (p : Part) : (s.setPart p).mon = s.mon := rfl
@[simp] theorem State.setPart_path (p : Part) : (s.setPart p).path = s.path := rfl
@[simp] theorem State.setPart_store (p : Part) : (s.setPart p).store = s.store := rfl
@[simp] theorem State.setPart_radio (p : Part) : (s.setPart p).radio = s.radio := rfl
@[simp] theorem State.setPart_sched (p : Part) : (s.setPart p).sched = s.sched := rfl
@[simp] theorem State.setPart_scan (p : Part) : (s.setPart p).scan = s.scan := rfl
@[simp] theorem State.setPart_part (p : Part) : (s.setPart p).part = p := rfl
@[simp] theorem State.setPart_pending (p : Part) : (s.setPart p).pending = s.pending := rfl

@[simp] theorem State.setPhase_link (p : Phase) : (s.setPhase p).link = { s.link with phase := p } := rfl
@[simp] theorem State.setPhase_mon (p : Phase) : (s.setPhase p).mon = s.mon := rfl
@[simp] theorem State.setPhase_path (p : Phase) : (s.setPhase p).path = s.path := rfl
@[simp] theorem State.setPhase_store (p : Phase) : (s.setPhase p).store = s.store := rfl
@[simp] theorem State.setPhase_radio (p : Phase) : (s.setPhase p).radio = s.radio := rfl
@[simp] theorem State.setPhase_sched (p : Phase) : (s.setPhase p).sched = s.sched := rfl
@[simp] theorem State.setPhase_scan (p : Phase) : (s.setPhase p).scan = s.scan := rfl
@[simp] theorem State.setPhase_part (p : Phase) : (s.setPhase p).part = s.part := rfl
@[simp] theorem State.setPhase_pending (p : Phase) : (s.setPhase p).pending = s.pending := rfl

@[simp] theorem State.setError_link (e : Bool) : (s.setError e).link = { s.link with error := e } := rfl
@[simp] theorem State.setError_mon (e : Bool) : (s.setError e).mon = s.mon := rfl
@[simp] theorem State.setError_path (e : Bool) : (s.setError e).path = s.path := rfl
@[simp] theorem State.setError_store (e : Bool) : (s.setError e).store = s.store := rfl
@[simp] theorem State.setError_radio (e : Bool) : (s.setError e).radio = s.radio := rfl
@[simp] theorem State.setError_sched (e : Bool) : (s.setError e).sched = s.sched := rfl
@[simp] theorem State.setError_scan (e : Bool) : (s.setError e).scan = s.scan := rfl
@[simp] theorem State.setError_part (e : Bool) : (s.setError e).part = s.part := rfl
@[simp] theorem State.setError_pending (e : Bool) : (s.setError e).pending = s.pending := rfl

@[simp] theorem State.setLast_link (i : Option EntryIdx) : (s.setLast i).link = s.link := rfl
@[simp] theorem State.setLast_mon (i : Option EntryIdx) : (s.setLast i).mon = s.mon := rfl
@[simp] theorem State.setLast_path (i : Option EntryIdx) : (s.setLast i).path = { s.path with lastMatch := i } := rfl
@[simp] theorem State.setLast_store (i : Option EntryIdx) : (s.setLast i).store = s.store := rfl
@[simp] theorem State.setLast_radio (i : Option EntryIdx) : (s.setLast i).radio = s.radio := rfl
@[simp] theorem State.setLast_sched (i : Option EntryIdx) : (s.setLast i).sched = s.sched := rfl
@[simp] theorem State.setLast_scan (i : Option EntryIdx) : (s.setLast i).scan = s.scan := rfl
@[simp] theorem State.setLast_part (i : Option EntryIdx) : (s.setLast i).part = s.part := rfl
@[simp] theorem State.setLast_pending (i : Option EntryIdx) : (s.setLast i).pending = s.pending := rfl

@[simp] theorem State.setSettings_link (c : LinkSettings) : (s.setSettings c).link = s.link := rfl
@[simp] theorem State.setSettings_mon (c : LinkSettings) : (s.setSettings c).mon = { s.mon with settings := c } := rfl
@[simp] theorem State.setSettings_path (c : LinkSettings) : (s.setSettings c).path = s.path := rfl
@[simp] theorem State.setSettings_store (c : LinkSettings) : (s.setSettings c).store = s.store := rfl
@[simp] theorem State.setSettings_radio (c : LinkSettings) : (s.setSettings c).radio = s.radio := rfl
@[simp] theorem State.setSettings_sched (c : LinkSettings) : (s.setSettings c).sched = s.sched := rfl
@[simp] theorem State.setSettings_scan (c : LinkSettings) : (s.setSettings c).scan = s.scan := rfl
@[simp] theorem State.setSettings_part (c : LinkSettings) : (s.setSettings c).part = s.part := rfl
@[simp] theorem State.setSettings_pending (c : LinkSettings) : (s.setSettings c).pending = s.pending := rfl

@[simp] theorem State.withPending_link (q : List Instr) : (s.withPending q).link = s.link := rfl
@[simp] theorem State.withPending_mon (q : List Instr) : (s.withPending q).mon = s.mon := rfl
@[simp] theorem State.withPending_path (q : List Instr) : (s.withPending q).path = s.path := rfl
@[simp] theorem State.withPending_store (q : List Instr) : (s.withPending q).store = s.store := rfl
@[simp] theorem State.withPending_radio (q : List Instr) : (s.withPending q).radio = s.radio := rfl
@[simp] theorem State.withPending_sched (q : List Instr) : (s.withPending q).sched = s.sched := rfl
@[simp] theorem State.withPending_scan (q : List Instr) : (s.withPending q).scan = s.scan := rfl
@[simp] theorem State.withPending_part (q : List Instr) : (s.withPending q).part = s.part := rfl
@[simp] theorem State.withPending_pending (q : List Instr) : (s.withPending q).pending = q := rfl

@[simp] theorem State.reply_link (k : Byte) (c : ResultCode) (b : ReplyBody) : (s.reply k c b).link = { s.link with reply := some { kind := some k, code := c, body := b } } := rfl
@[simp] theorem State.reply_mon (k : Byte) (c : ResultCode) (b : ReplyBody) : (s.reply k c b).mon = s.mon := rfl
@[simp] theorem State.reply_path (k : Byte) (c : ResultCode) (b : ReplyBody) : (s.reply k c b).path = s.path := rfl
@[simp] theorem State.reply_store (k : Byte) (c : ResultCode) (b : ReplyBody) : (s.reply k c b).store = s.store := rfl
@[simp] theorem State.reply_radio (k : Byte) (c : ResultCode) (b : ReplyBody) : (s.reply k c b).radio = s.radio := rfl
@[simp] theorem State.reply_sched (k : Byte) (c : ResultCode) (b : ReplyBody) : (s.reply k c b).sched = s.sched := rfl
@[simp] theorem State.reply_scan (k : Byte) (c : ResultCode) (b : ReplyBody) : (s.reply k c b).scan = s.scan := rfl
@[simp] theorem State.reply_part (k : Byte) (c : ResultCode) (b : ReplyBody) : (s.reply k c b).part = s.part := rfl
@[simp] theorem State.reply_pending (k : Byte) (c : ResultCode) (b : ReplyBody) : (s.reply k c b).pending = s.pending := rfl

@[simp] theorem State.answered_link (k : Byte) (c : ResultCode) (b : ReplyBody) : (s.answered k c b).link = { s.link with phase := .spent, reply := some { kind := some k, code := c, body := b } } := rfl
@[simp] theorem State.answered_mon (k : Byte) (c : ResultCode) (b : ReplyBody) : (s.answered k c b).mon = s.mon := rfl
@[simp] theorem State.answered_path (k : Byte) (c : ResultCode) (b : ReplyBody) : (s.answered k c b).path = s.path := rfl
@[simp] theorem State.answered_store (k : Byte) (c : ResultCode) (b : ReplyBody) : (s.answered k c b).store = s.store := rfl
@[simp] theorem State.answered_radio (k : Byte) (c : ResultCode) (b : ReplyBody) : (s.answered k c b).radio = s.radio := rfl
@[simp] theorem State.answered_sched (k : Byte) (c : ResultCode) (b : ReplyBody) : (s.answered k c b).sched = s.sched := rfl
@[simp] theorem State.answered_scan (k : Byte) (c : ResultCode) (b : ReplyBody) : (s.answered k c b).scan = s.scan := rfl
@[simp] theorem State.answered_part (k : Byte) (c : ResultCode) (b : ReplyBody) : (s.answered k c b).part = s.part := rfl
@[simp] theorem State.answered_pending (k : Byte) (c : ResultCode) (b : ReplyBody) : (s.answered k c b).pending = s.pending := rfl

@[simp] theorem State.post_link (src : Source) (c : NoticeContent) (r : Option Rescue) : (s.post src c r).link = { s.link with notices := postInto src c r s.link.notices, phase := carryPosting src r s.link.phase } := rfl
@[simp] theorem State.post_mon (src : Source) (c : NoticeContent) (r : Option Rescue) : (s.post src c r).mon = s.mon := rfl
@[simp] theorem State.post_path (src : Source) (c : NoticeContent) (r : Option Rescue) : (s.post src c r).path = s.path := rfl
@[simp] theorem State.post_store (src : Source) (c : NoticeContent) (r : Option Rescue) : (s.post src c r).store = s.store := rfl
@[simp] theorem State.post_radio (src : Source) (c : NoticeContent) (r : Option Rescue) : (s.post src c r).radio = s.radio := rfl
@[simp] theorem State.post_sched (src : Source) (c : NoticeContent) (r : Option Rescue) : (s.post src c r).sched = s.sched := rfl
@[simp] theorem State.post_scan (src : Source) (c : NoticeContent) (r : Option Rescue) : (s.post src c r).scan = s.scan := rfl
@[simp] theorem State.post_part (src : Source) (c : NoticeContent) (r : Option Rescue) : (s.post src c r).part = s.part := rfl
@[simp] theorem State.post_pending (src : Source) (c : NoticeContent) (r : Option Rescue) : (s.post src c r).pending = s.pending := rfl

@[simp] theorem State.postSched_link (k : SchedCause) (d : Option Int) : (s.postSched k d).link = (s.post .scheduler (.scheduler k s.sched.holds.drift s.sched.sync d s.sched.count) none).link := rfl
@[simp] theorem State.postSched_mon (k : SchedCause) (d : Option Int) : (s.postSched k d).mon = s.mon := rfl
@[simp] theorem State.postSched_path (k : SchedCause) (d : Option Int) : (s.postSched k d).path = s.path := rfl
@[simp] theorem State.postSched_store (k : SchedCause) (d : Option Int) : (s.postSched k d).store = s.store := rfl
@[simp] theorem State.postSched_radio (k : SchedCause) (d : Option Int) : (s.postSched k d).radio = s.radio := rfl
@[simp] theorem State.postSched_sched (k : SchedCause) (d : Option Int) : (s.postSched k d).sched = s.sched := rfl
@[simp] theorem State.postSched_scan (k : SchedCause) (d : Option Int) : (s.postSched k d).scan = s.scan := rfl
@[simp] theorem State.postSched_part (k : SchedCause) (d : Option Int) : (s.postSched k d).part = s.part := rfl
@[simp] theorem State.postSched_pending (k : SchedCause) (d : Option Int) : (s.postSched k d).pending = s.pending := rfl

@[simp] theorem State.postSupply_link (e : Edge) (c : Option Cut) : (s.postSupply e c).link = (s.post .supply (.supply e s.part.supplyLow s.part.latch c s.sched.count) none).link := rfl
@[simp] theorem State.postSupply_mon (e : Edge) (c : Option Cut) : (s.postSupply e c).mon = s.mon := rfl
@[simp] theorem State.postSupply_path (e : Edge) (c : Option Cut) : (s.postSupply e c).path = s.path := rfl
@[simp] theorem State.postSupply_store (e : Edge) (c : Option Cut) : (s.postSupply e c).store = s.store := rfl
@[simp] theorem State.postSupply_radio (e : Edge) (c : Option Cut) : (s.postSupply e c).radio = s.radio := rfl
@[simp] theorem State.postSupply_sched (e : Edge) (c : Option Cut) : (s.postSupply e c).sched = s.sched := rfl
@[simp] theorem State.postSupply_scan (e : Edge) (c : Option Cut) : (s.postSupply e c).scan = s.scan := rfl
@[simp] theorem State.postSupply_part (e : Edge) (c : Option Cut) : (s.postSupply e c).part = s.part := rfl
@[simp] theorem State.postSupply_pending (e : Edge) (c : Option Cut) : (s.postSupply e c).pending = s.pending := rfl

@[simp] theorem State.postLink_link (n : NbrIdx) (k : LinkCause) (r : Option Rescue) : (s.postLink n k r).link = (s.post (.link n) (.link n (s.nbr n).nodeId (s.nbr n).state k (s.nbr n).sector (s.nbr n).epoch ((s.nbr n).acc.map marginOf)) r).link := rfl
@[simp] theorem State.postLink_mon (n : NbrIdx) (k : LinkCause) (r : Option Rescue) : (s.postLink n k r).mon = s.mon := rfl
@[simp] theorem State.postLink_path (n : NbrIdx) (k : LinkCause) (r : Option Rescue) : (s.postLink n k r).path = s.path := rfl
@[simp] theorem State.postLink_store (n : NbrIdx) (k : LinkCause) (r : Option Rescue) : (s.postLink n k r).store = s.store := rfl
@[simp] theorem State.postLink_radio (n : NbrIdx) (k : LinkCause) (r : Option Rescue) : (s.postLink n k r).radio = s.radio := rfl
@[simp] theorem State.postLink_sched (n : NbrIdx) (k : LinkCause) (r : Option Rescue) : (s.postLink n k r).sched = s.sched := rfl
@[simp] theorem State.postLink_scan (n : NbrIdx) (k : LinkCause) (r : Option Rescue) : (s.postLink n k r).scan = s.scan := rfl
@[simp] theorem State.postLink_part (n : NbrIdx) (k : LinkCause) (r : Option Rescue) : (s.postLink n k r).part = s.part := rfl
@[simp] theorem State.postLink_pending (n : NbrIdx) (k : LinkCause) (r : Option Rescue) : (s.postLink n k r).pending = s.pending := rfl

@[simp] theorem State.countDiscard_link (w : Reason) : (s.countDiscard w).link = s.link := rfl
@[simp] theorem State.countDiscard_mon (w : Reason) : (s.countDiscard w).mon = s.mon := rfl
@[simp] theorem State.countDiscard_path (w : Reason) : (s.countDiscard w).path = s.path := rfl
@[simp] theorem State.countDiscard_store (w : Reason) : (s.countDiscard w).store = { s.store with discards := s.store.discards.raise w } := rfl
@[simp] theorem State.countDiscard_radio (w : Reason) : (s.countDiscard w).radio = s.radio := rfl
@[simp] theorem State.countDiscard_sched (w : Reason) : (s.countDiscard w).sched = s.sched := rfl
@[simp] theorem State.countDiscard_scan (w : Reason) : (s.countDiscard w).scan = s.scan := rfl
@[simp] theorem State.countDiscard_part (w : Reason) : (s.countDiscard w).part = s.part := rfl
@[simp] theorem State.countDiscard_pending (w : Reason) : (s.countDiscard w).pending = s.pending := rfl

@[simp] theorem State.countCheckFail_link : (s.countCheckFail).link = s.link := rfl
@[simp] theorem State.countCheckFail_mon : (s.countCheckFail).mon = s.mon := rfl
@[simp] theorem State.countCheckFail_path : (s.countCheckFail).path = s.path := rfl
@[simp] theorem State.countCheckFail_store : (s.countCheckFail).store = { s.store with checkFail := bump 65535 s.store.checkFail } := rfl
@[simp] theorem State.countCheckFail_radio : (s.countCheckFail).radio = s.radio := rfl
@[simp] theorem State.countCheckFail_sched : (s.countCheckFail).sched = s.sched := rfl
@[simp] theorem State.countCheckFail_scan : (s.countCheckFail).scan = s.scan := rfl
@[simp] theorem State.countCheckFail_part : (s.countCheckFail).part = s.part := rfl
@[simp] theorem State.countCheckFail_pending : (s.countCheckFail).pending = s.pending := rfl

@[simp] theorem State.countForeign_link : (s.countForeign).link = s.link := rfl
@[simp] theorem State.countForeign_mon : (s.countForeign).mon = s.mon := rfl
@[simp] theorem State.countForeign_path : (s.countForeign).path = s.path := rfl
@[simp] theorem State.countForeign_store : (s.countForeign).store = { s.store with foreign := bump 65535 s.store.foreign } := rfl
@[simp] theorem State.countForeign_radio : (s.countForeign).radio = s.radio := rfl
@[simp] theorem State.countForeign_sched : (s.countForeign).sched = s.sched := rfl
@[simp] theorem State.countForeign_scan : (s.countForeign).scan = s.scan := rfl
@[simp] theorem State.countForeign_part : (s.countForeign).part = s.part := rfl
@[simp] theorem State.countForeign_pending : (s.countForeign).pending = s.pending := rfl

@[simp] theorem State.ignoreTrigger_link : (s.ignoreTrigger).link = s.link := rfl
@[simp] theorem State.ignoreTrigger_mon : (s.ignoreTrigger).mon = s.mon := rfl
@[simp] theorem State.ignoreTrigger_path : (s.ignoreTrigger).path = s.path := rfl
@[simp] theorem State.ignoreTrigger_store : (s.ignoreTrigger).store = s.store := rfl
@[simp] theorem State.ignoreTrigger_radio : (s.ignoreTrigger).radio = s.radio := rfl
@[simp] theorem State.ignoreTrigger_sched : (s.ignoreTrigger).sched = s.sched := rfl
@[simp] theorem State.ignoreTrigger_scan : (s.ignoreTrigger).scan = { s.scan with ignored := bump 65535 s.scan.ignored } := rfl
@[simp] theorem State.ignoreTrigger_part : (s.ignoreTrigger).part = s.part := rfl
@[simp] theorem State.ignoreTrigger_pending : (s.ignoreTrigger).pending = s.pending := rfl

@[simp] theorem State.park_link (n : NbrIdx) : (s.park n).link = s.link := rfl
@[simp] theorem State.park_mon (n : NbrIdx) : (s.park n).mon = s.mon := rfl
@[simp] theorem State.park_path (n : NbrIdx) : (s.park n).path = { s.path with entries := s.path.entries.each (parkEntry n) } := rfl
@[simp] theorem State.park_store (n : NbrIdx) : (s.park n).store = s.store := rfl
@[simp] theorem State.park_radio (n : NbrIdx) : (s.park n).radio = s.radio := rfl
@[simp] theorem State.park_sched (n : NbrIdx) : (s.park n).sched = s.sched := rfl
@[simp] theorem State.park_scan (n : NbrIdx) : (s.park n).scan = s.scan := rfl
@[simp] theorem State.park_part (n : NbrIdx) : (s.park n).part = s.part := rfl
@[simp] theorem State.park_pending (n : NbrIdx) : (s.park n).pending = s.pending := rfl

@[simp] theorem State.unpark_link (n : NbrIdx) : (s.unpark n).link = s.link := rfl
@[simp] theorem State.unpark_mon (n : NbrIdx) : (s.unpark n).mon = s.mon := rfl
@[simp] theorem State.unpark_path (n : NbrIdx) : (s.unpark n).path = { s.path with entries := s.path.entries.each (unparkEntry n) } := rfl
@[simp] theorem State.unpark_store (n : NbrIdx) : (s.unpark n).store = s.store := rfl
@[simp] theorem State.unpark_radio (n : NbrIdx) : (s.unpark n).radio = s.radio := rfl
@[simp] theorem State.unpark_sched (n : NbrIdx) : (s.unpark n).sched = s.sched := rfl
@[simp] theorem State.unpark_scan (n : NbrIdx) : (s.unpark n).scan = s.scan := rfl
@[simp] theorem State.unpark_part (n : NbrIdx) : (s.unpark n).part = s.part := rfl
@[simp] theorem State.unpark_pending (n : NbrIdx) : (s.unpark n).pending = s.pending := rfl

@[simp] theorem State.freeEntries_link (p : Entry → Bool) : (s.freeEntries p).link = s.link := rfl
@[simp] theorem State.freeEntries_mon (p : Entry → Bool) : (s.freeEntries p).mon = s.mon := rfl
@[simp] theorem State.freeEntries_path (p : Entry → Bool) : (s.freeEntries p).path = { s.path with entries := s.path.entries.each (fun e => if p e then none else e), lastMatch := s.path.lastAfter p } := rfl
@[simp] theorem State.freeEntries_store (p : Entry → Bool) : (s.freeEntries p).store = s.store := rfl
@[simp] theorem State.freeEntries_radio (p : Entry → Bool) : (s.freeEntries p).radio = s.radio := rfl
@[simp] theorem State.freeEntries_sched (p : Entry → Bool) : (s.freeEntries p).sched = s.sched := rfl
@[simp] theorem State.freeEntries_scan (p : Entry → Bool) : (s.freeEntries p).scan = s.scan := rfl
@[simp] theorem State.freeEntries_part (p : Entry → Bool) : (s.freeEntries p).part = s.part := rfl
@[simp] theorem State.freeEntries_pending (p : Entry → Bool) : (s.freeEntries p).pending = s.pending := rfl

@[simp] theorem State.modCounters_link (n : NbrIdx) (f : NbrCounters → NbrCounters) : (s.modCounters n f).link = s.link := rfl
@[simp] theorem State.modCounters_mon (n : NbrIdx) (f : NbrCounters → NbrCounters) : (s.modCounters n f).mon = { s.mon with nbrs := s.mon.nbrs.put n { s.nbr n with counters := f (s.nbr n).counters } } := rfl
@[simp] theorem State.modCounters_path (n : NbrIdx) (f : NbrCounters → NbrCounters) : (s.modCounters n f).path = s.path := rfl
@[simp] theorem State.modCounters_store (n : NbrIdx) (f : NbrCounters → NbrCounters) : (s.modCounters n f).store = s.store := rfl
@[simp] theorem State.modCounters_radio (n : NbrIdx) (f : NbrCounters → NbrCounters) : (s.modCounters n f).radio = s.radio := rfl
@[simp] theorem State.modCounters_sched (n : NbrIdx) (f : NbrCounters → NbrCounters) : (s.modCounters n f).sched = s.sched := rfl
@[simp] theorem State.modCounters_scan (n : NbrIdx) (f : NbrCounters → NbrCounters) : (s.modCounters n f).scan = s.scan := rfl
@[simp] theorem State.modCounters_part (n : NbrIdx) (f : NbrCounters → NbrCounters) : (s.modCounters n f).part = s.part := rfl
@[simp] theorem State.modCounters_pending (n : NbrIdx) (f : NbrCounters → NbrCounters) : (s.modCounters n f).pending = s.pending := rfl

@[simp] theorem State.setSupplyHold_link (f : Bool) : (s.setSupplyHold f).link = s.link := rfl
@[simp] theorem State.setSupplyHold_mon (f : Bool) : (s.setSupplyHold f).mon = s.mon := rfl
@[simp] theorem State.setSupplyHold_path (f : Bool) : (s.setSupplyHold f).path = s.path := rfl
@[simp] theorem State.setSupplyHold_store (f : Bool) : (s.setSupplyHold f).store = s.store := rfl
@[simp] theorem State.setSupplyHold_radio (f : Bool) : (s.setSupplyHold f).radio = s.radio := rfl
@[simp] theorem State.setSupplyHold_sched (f : Bool) : (s.setSupplyHold f).sched = { s.sched with holds := { s.sched.holds with supply := f } } := rfl
@[simp] theorem State.setSupplyHold_scan (f : Bool) : (s.setSupplyHold f).scan = s.scan := rfl
@[simp] theorem State.setSupplyHold_part (f : Bool) : (s.setSupplyHold f).part = s.part := rfl
@[simp] theorem State.setSupplyHold_pending (f : Bool) : (s.setSupplyHold f).pending = s.pending := rfl

@[simp] theorem State.acknowledge_link (ctx : RxCtx) (q : Seq) : (s.acknowledge ctx q).link = s.link := rfl
@[simp] theorem State.acknowledge_mon (ctx : RxCtx) (q : Seq) : (s.acknowledge ctx q).mon = s.mon := rfl
@[simp] theorem State.acknowledge_path (ctx : RxCtx) (q : Seq) : (s.acknowledge ctx q).path = s.path := rfl
@[simp] theorem State.acknowledge_store (ctx : RxCtx) (q : Seq) : (s.acknowledge ctx q).store = s.store := rfl
@[simp] theorem State.acknowledge_radio (ctx : RxCtx) (q : Seq) : (s.acknowledge ctx q).radio = { s.radio with rx := some { ctx with acks := addAck ctx.acks q } } := rfl
@[simp] theorem State.acknowledge_sched (ctx : RxCtx) (q : Seq) : (s.acknowledge ctx q).sched = s.sched := rfl
@[simp] theorem State.acknowledge_scan (ctx : RxCtx) (q : Seq) : (s.acknowledge ctx q).scan = s.scan := rfl
@[simp] theorem State.acknowledge_part (ctx : RxCtx) (q : Seq) : (s.acknowledge ctx q).part = s.part := rfl
@[simp] theorem State.acknowledge_pending (ctx : RxCtx) (q : Seq) : (s.acknowledge ctx q).pending = s.pending := rfl

end Sys2Proof.Machine
end

