-- ==== Sys2Proof/Laws/Tables.lean ====
section
/-! SUPPORT. Reading a table after a change of it, and the lowest index that satisfies a condition. -/

namespace Sys2Proof

variable {α β : Type} {n : Nat}

@[simp] theorem Tab.look_put_self (t : Tab α n) (i : Fin n) (x : α) : (t.put i x).look i = x := by
  simp [Tab.look, Tab.put]

theorem Tab.look_put_of_ne (t : Tab α n) {i j : Fin n} (x : α) (h : j ≠ i) : (t.put i x).look j = t.look j := by
  have : i.val ≠ j.val := fun e => h (Fin.ext e.symm)
  simp [Tab.look, Tab.put, this]

theorem Tab.look_put (t : Tab α n) (i j : Fin n) (x : α) : (t.put i x).look j = if j = i then x else t.look j := by
  split
  · next h => rw [h, Tab.look_put_self]
  · next h => exact Tab.look_put_of_ne t x h

@[simp] theorem Tab.look_each (f : α → β) (t : Tab α n) (i : Fin n) : (Tab.each f t).look i = f (t.look i) := by
  simp [Tab.each, Tab.look]

@[simp] theorem Tab.look_all (x : α) (i : Fin n) : (Tab.all n x).look i = x := by
  simp [Tab.all, Tab.look]

/-- Two tables that read alike everywhere are equal. -/
theorem Tab.ext_look {t u : Tab α n} (h : ∀ i, t.look i = u.look i) : t = u := by
  apply Vector.ext
  intro i hi
  exact h ⟨i, hi⟩

@[simp] theorem Tab.put_look (t : Tab α n) (i : Fin n) : t.put i (t.look i) = t := by
  apply Tab.ext_look
  intro j
  rw [Tab.look_put]
  split
  · next h => rw [h]
  · rfl

@[simp] theorem Tab.put_put (t : Tab α n) (i : Fin n) (x y : α) : (t.put i x).put i y = t.put i y := by
  apply Tab.ext_look
  intro j
  simp only [Tab.look_put]
  split <;> rfl

/-- The lowest index is the one that satisfies the condition with none below it. -/
theorem Tab.lowest_eq_some {t : Tab α n} {p : α → Bool} {i : Fin n} :
    t.lowest p = some i ↔ p (t.look i) = true ∧ ∀ j, j < i → p (t.look j) = false := by
  unfold Tab.lowest
  rw [List.find?_eq_some_iff_getElem]
  constructor
  · rintro ⟨h, k, hk, he, hb⟩
    have hik : i.val = k := by simpa using congrArg Fin.val he.symm
    refine ⟨h, fun j hj => ?_⟩
    have hjk : j.val < k := by
      have : j.val < i.val := hj
      omega
    simpa using hb j.val hjk
  · rintro ⟨h, hb⟩
    refine ⟨h, i.val, by simp, by simp, fun j hj => ?_⟩
    have hjn : j < n := Nat.lt_trans hj i.isLt
    simpa using hb ⟨j, hjn⟩ hj

theorem Tab.lowest_eq_none {t : Tab α n} {p : α → Bool} : t.lowest p = none ↔ ∀ i, p (t.look i) = false := by
  unfold Tab.lowest
  simp [List.find?_eq_none]

/-- A count that stops at `top` never passes it. -/
theorem bump_le (top x : Nat) : bump top x ≤ top := Nat.min_le_left _ _

theorem satAdd_le (top x y : Nat) : satAdd top x y ≤ top := Nat.min_le_left _ _

end Sys2Proof
end

