-- ==== Sys2Proof/Laws/Ops.lean ====
section
/-! SUPPORT. For each shared operation, once, what it can do: later proofs cite these and unfold no operation. -/

namespace Sys2Proof.Machine

open Sys2Proof

/-! ## Tables of the state -/

@[simp] theorem State.nbr_setNbr_self (s : State) (n : NbrIdx) (r : Nbr) : (s.setNbr n r).nbr n = r :=
  Tab.look_put_self _ _ _

theorem State.nbr_setNbr (s : State) (n m : NbrIdx) (r : Nbr) : (s.setNbr n r).nbr m = if m = n then r else s.nbr m :=
  Tab.look_put _ _ _ _

@[simp] theorem State.nbr_modNbr_self (s : State) (n : NbrIdx) (f : Nbr → Nbr) : (s.modNbr n f).nbr n = f (s.nbr n) :=
  Tab.look_put_self _ _ _

theorem State.nbr_modNbr (s : State) (n m : NbrIdx) (f : Nbr → Nbr) :
    (s.modNbr n f).nbr m = if m = n then f (s.nbr n) else s.nbr m := Tab.look_put _ _ _ _

theorem State.entry_setEntry (s : State) (i j : EntryIdx) (e : Entry) :
    (s.setEntry i e).entry j = if j = i then e else s.entry j := Tab.look_put _ _ _ _

theorem State.queue_setQueue (s : State) (n m : NbrIdx) (q : List Handle) :
    (s.setQueue n q).queue m = if m = n then q else s.queue m := Tab.look_put _ _ _ _

theorem State.frame_setFrame (s : State) (h j : Handle) (f : Option FrameRec) :
    (s.setFrame h f).frame j = if j = h then f else s.frame j := Tab.look_put _ _ _ _

/-- States with one neighbour table read alike. -/
theorem State.nbr_eq {s t : State} (h : t.mon.nbrs = s.mon.nbrs) (n : NbrIdx) : t.nbr n = s.nbr n := by
  unfold State.nbr
  rw [h]

/-- States with one table of entries read alike. -/
theorem State.entry_eq {s t : State} (h : t.path.entries = s.path.entries) (i : EntryIdx) : t.entry i = s.entry i := by
  unfold State.entry
  rw [h]

/-- States with one set of queues read alike. -/
theorem State.queue_eq {s t : State} (h : t.store.queues = s.store.queues) (n : NbrIdx) : t.queue n = s.queue n := by
  unfold State.queue
  rw [h]

/-- States with one set of frame records read alike. -/
theorem State.frame_eq {s t : State} (h : t.store.frames = s.store.frames) (i : Handle) : t.frame i = s.frame i := by
  unfold State.frame
  rw [h]

/-! ## Requests -/

/-- A request whose WRITE was accepted is carried out by its owner. -/
theorem State.takeRequest_accepting {s : State} (h : s.accepting) (owner : State → State) :
    s.takeRequest owner = .next (owner { s with link := { s.link with phase := .spent } }) := if_pos h

/-- A request whose WRITE was not accepted changes nothing. -/
theorem State.takeRequest_lost {s : State} (h : ¬ s.accepting) (owner : State → State) : s.takeRequest owner = .next s :=
  if_neg h

/-- A request always completes. -/
theorem State.takeRequest_next (s : State) (owner : State → State) : ∃ t, s.takeRequest owner = .next t := by
  by_cases h : s.accepting
  · exact ⟨_, State.takeRequest_accepting h owner⟩
  · exact ⟨_, State.takeRequest_lost h owner⟩

/-- The reply to a request just taken is the answered request. -/
theorem State.reply_spent (s : State) (k : Byte) (c : ResultCode) (b : ReplyBody) :
    State.reply { s with link := { s.link with phase := .spent } } k c b = s.answered k c b := rfl

/-! ## Notices -/

/-- A posting of a source that is not pending joins the tail. -/
theorem postInto_fresh {src : Source} {set : List Notice} (content : NoticeContent) (rescue : Option Rescue)
    (h : ∀ n ∈ set, n.source ≠ src) :
    postInto src content rescue set = set ++ [{ source := src, content := content, changes := 1, rescue := rescue }] := by
  have : (set.any fun n => n.source == src) = false := by
    simp only [List.any_eq_false, beq_iff_eq]
    exact h
  simp [postInto, this]

/-- A posting leaves the sources pending as they were, or adds its own at the tail. -/
theorem postInto_sources (src : Source) (content : NoticeContent) (rescue : Option Rescue) (set : List Notice) :
    (postInto src content rescue set).map (·.source) =
      if (set.any fun n => n.source == src) = true then set.map (·.source) else set.map (·.source) ++ [src] := by
  unfold postInto
  split
  · rw [List.map_map]
    apply List.map_congr_left
    intro n _
    simp only [Function.comp]
    split <;> rfl
  · simp

/-- After a posting the source is pending. -/
theorem State.isPending_post (s : State) (src : Source) (content : NoticeContent) (rescue : Option Rescue) :
    (s.post src content rescue).isPending src = true := by
  show (postInto src content rescue s.link.notices).any (fun n => n.source == src) = true
  unfold postInto
  split
  · next h =>
    simp only [List.any_eq_true, beq_iff_eq] at h ⊢
    obtain ⟨n, hn, hs⟩ := h
    exact ⟨_, List.mem_map_of_mem hn, by simp [hs]⟩
  · simp

/-! ## Path table -/

/-- A frame lookup changes at most the hit count of the entry it answers. -/
theorem State.frameLookup_spec (s : State) (q : Key) :
    ((s.frameLookup q).1 = none ∧ (s.frameLookup q).2 = s)
      ∨ ∃ i r, s.path.winner q = some i ∧ s.entry i = some r ∧ (s.frameLookup q).1 = some (i, r)
        ∧ (s.frameLookup q).2 = s.setEntry i (some r.hit) := by
  unfold State.frameLookup
  cases hw : s.path.winner q with
  | none => exact .inl ⟨rfl, rfl⟩
  | some i =>
    cases he : s.entry i with
    | none => exact .inl ⟨by simp [he], by simp [he]⟩
    | some r => exact .inr ⟨i, r, rfl, he, by simp [he], by simp [he]⟩

/-- The winner of a lookup is LIVE and matches, and its route is the one the entry holds. -/
theorem State.frameLookup_live {s : State} {q : Key} {i : EntryIdx} {r : Route} (h : (s.frameLookup q).1 = some (i, r)) :
    s.entry i = some r ∧ r.state = .live ∧ s.path.mask.matches r.key q = true := by
  rcases s.frameLookup_spec q with ⟨h0, _⟩ | ⟨j, r', hw, he, h1, _⟩
  · rw [h0] at h
    cases h
  · rw [h1] at h
    obtain ⟨rfl, rfl⟩ : j = i ∧ r' = r := by simpa using h
    have := (Tab.lowest_eq_some.1 hw).1
    have he' : s.path.entries.look j = some r' := he
    rw [he'] at this
    simp only [entryMatches, Bool.and_eq_true, beq_iff_eq] at this
    exact ⟨he, this.1, this.2⟩

/-- The key, the action and the state of a route stay when its hit count rises. -/
@[simp] theorem Route.hit_key (r : Route) : r.hit.key = r.key := rfl
@[simp] theorem Route.hit_action (r : Route) : r.hit.action = r.action := rfl
@[simp] theorem Route.hit_state (r : Route) : r.hit.state = r.state := rfl

@[simp] theorem State.entry_park (s : State) (n : NbrIdx) (i : EntryIdx) : (s.park n).entry i = parkEntry n (s.entry i) :=
  Tab.look_each _ _ _

@[simp] theorem State.entry_unpark (s : State) (n : NbrIdx) (i : EntryIdx) :
    (s.unpark n).entry i = unparkEntry n (s.entry i) := Tab.look_each _ _ _

@[simp] theorem State.entry_freeEntries (s : State) (freed : Entry → Bool) (i : EntryIdx) :
    (s.freeEntries freed).entry i = if freed (s.entry i) then none else s.entry i := Tab.look_each _ _ _

/-- The parking rule touches the entries alone. -/
theorem State.parkFor_spec (s : State) (n : NbrIdx) (old new : LinkState) :
    ∃ entries, s.parkFor n old new = { s with path := { s.path with entries := entries } } := by
  unfold State.parkFor
  split
  · exact ⟨_, rfl⟩
  · split
    · exact ⟨_, rfl⟩
    · exact ⟨_, rfl⟩

/-! ## Frame store -/

theorem State.release_none {s : State} {h : Handle} (hf : s.frame h = none) : s.release h = s := by
  simp [State.release, hf]

theorem State.release_some {s : State} {h : Handle} {f : FrameRec} (hf : s.frame h = some f) :
    s.release h =
      { s with store := { s.store with frames := s.store.frames.put h none, pool := s.store.pool ++ f.pages } } := by
  simp [State.release, hf]

/-- A release touches records and pool alone. -/
theorem State.release_spec (s : State) (h : Handle) :
    ∃ frames pool, s.release h = { s with store := { s.store with frames := frames, pool := pool } } := by
  unfold State.release
  split
  · exact ⟨_, _, rfl⟩
  · exact ⟨_, _, rfl⟩

/-- A discard touches records, pool and the counters of discards alone. -/
theorem State.discard_spec (s : State) (why : Reason) (h : Handle) :
    ∃ frames pool discards,
      s.discard why h = { s with store := { s.store with frames := frames, pool := pool, discards := discards } } := by
  obtain ⟨frames, pool, hr⟩ := s.release_spec h
  exact ⟨frames, pool, s.store.discards.raise why, by rw [State.discard, hr]; rfl⟩

/-- A released handle is free, and every other record is untouched. -/
theorem State.frame_release (s : State) (h j : Handle) : (s.release h).frame j = if j = h then none else s.frame j := by
  cases hf : s.frame h with
  | none =>
    rw [State.release_none hf]
    split
    · next e => rw [e, hf]
    · rfl
  | some f =>
    rw [State.release_some hf]
    exact Tab.look_put _ _ _ _

@[simp] theorem State.frame_discard (s : State) (why : Reason) (h j : Handle) :
    (s.discard why h).frame j = if j = h then none else s.frame j := s.frame_release h j

/-- An append to a transmit queue touches that queue, the frame's record and the neighbour's sequence counter alone. -/
theorem State.appendQueue_spec (s : State) (m : NbrIdx) (h : Handle) :
    s.appendQueue m h =
      { s with
        mon := { s.mon with nbrs := s.mon.nbrs.put m { s.nbr m with txSeq := (s.nbr m).txSeq + 1 } }
        store := { s.store with
          frames := s.store.frames.put h ((s.frame h).map fun f =>
            { f with place := .queue m, seq := some (s.nbr m).txSeq, retries := some 0, unrouted := none })
          queues := s.store.queues.put m (s.queue m ++ [h]) } } := rfl

/-- An append to the delivery queue touches that queue and the frame's record alone. -/
theorem State.appendDelivery_spec (s : State) (h : Handle) (u : Bool) :
    s.appendDelivery h u =
      { s with store := { s.store with
          frames := s.store.frames.put h ((s.frame h).map fun f =>
            { f with place := .delivery, seq := none, retries := none, unrouted := some u })
          delivery := s.store.delivery ++ [h] } } := rfl

/-- Exactly as many pages are taken as were asked for. -/
@[simp] theorem takePages_length (k c : Nat) (pool : List Nat) : (takePages k c pool).1.length = k := by
  induction k generalizing c pool with
  | zero => rfl
  | succ k ih => simp [takePages, ih]

/-- While the pool holds enough pages, those taken and those left are the pool. -/
theorem takePages_perm (k c : Nat) (pool : List Nat) (h : k ≤ pool.length) :
    ((takePages k c pool).1 ++ (takePages k c pool).2).Perm pool := by
  induction k generalizing c pool with
  | zero => exact List.Perm.refl _
  | succ k ih =>
    have hi : Config.pagePick c % pool.length < pool.length := Nat.mod_lt _ (by omega)
    have hm : pool.getD (Config.pagePick c % pool.length) 0 ∈ pool := by
      rw [List.getD_eq_getElem?_getD, List.getElem?_eq_getElem hi]
      exact List.getElem_mem hi
    have hl := List.length_erase_of_mem hm
    simp only [takePages, List.cons_append]
    exact (List.Perm.cons _ (ih _ _ (by omega))).trans (List.perm_cons_erase hm).symm

/-! ## Scanner triggers -/

/-- A trigger touches the scanner's state and ignored count, and the front end where it abandons a dwell. -/
theorem State.trigger_spec (s : State) :
    ∃ radio st ignored, s.trigger.1 = { s with radio := radio, scan := { s.scan with state := st, ignored := ignored } } := by
  have hr : ∃ radio, s.restartScan =
      { s with radio := radio, scan := { s.scan with state := .armed s.scan.settings.start } } := by
    unfold State.restartScan
    split
    · exact ⟨_, rfl⟩
    · exact ⟨_, rfl⟩
  obtain ⟨radio, hr⟩ := hr
  unfold State.trigger
  split
  · exact ⟨radio, _, _, hr⟩
  · exact ⟨_, _, _, rfl⟩
  · exact ⟨radio, _, _, hr⟩
  · exact ⟨_, _, _, rfl⟩

theorem State.lossTrigger_spec (s : State) :
    ∃ radio st ignored, s.lossTrigger = { s with radio := radio, scan := { s.scan with state := st, ignored := ignored } } := by
  unfold State.lossTrigger
  split
  · exact s.trigger_spec
  · exact ⟨_, _, _, rfl⟩

theorem State.boundaryTrigger_spec (s : State) :
    ∃ radio st ignored,
      s.boundaryTrigger = { s with radio := radio, scan := { s.scan with state := st, ignored := ignored } } := by
  unfold State.boundaryTrigger
  split
  · exact s.trigger_spec
  · exact ⟨_, _, _, rfl⟩

/-! ## Rescue, changes of state, observations -/

/-- One frame's rescue touches neighbour records, entries and the frame store alone. -/
theorem rescueOne_spec (acc : State × Rescue) (h : Handle) :
    ∃ nbrs entries store, (rescueOne acc h).1 =
      { acc.1 with mon := { acc.1.mon with nbrs := nbrs }, path := { acc.1.path with entries := entries }, store := store } := by
  unfold rescueOne
  cases hf : acc.1.frame h with
  | none => exact ⟨_, _, _, rfl⟩
  | some f =>
    dsimp only
    have hl : ∃ entries, (acc.1.frameLookup { dest := f.dest, cls := f.cls, ing := f.ing }).2 =
        { acc.1 with path := { acc.1.path with entries := entries } } := by
      rcases acc.1.frameLookup_spec { dest := f.dest, cls := f.cls, ing := f.ing } with ⟨_, h2⟩ | ⟨_, _, _, _, _, h2⟩
      · exact ⟨_, h2⟩
      · exact ⟨_, h2⟩
    obtain ⟨entries, hl⟩ := hl
    rw [hl]
    have hd : ∀ why, ∃ nbrs entries' store,
        State.discard { acc.1 with path := { acc.1.path with entries := entries } } why h =
          { acc.1 with mon := { acc.1.mon with nbrs := nbrs }, path := { acc.1.path with entries := entries' },
                       store := store } := by
      intro why
      obtain ⟨a, b, c, hd⟩ := State.discard_spec { acc.1 with path := { acc.1.path with entries := entries } } why h
      exact ⟨_, _, _, hd⟩
    cases (acc.1.frameLookup { dest := f.dest, cls := f.cls, ing := f.ing }).1 with
    | none => exact hd _
    | some w =>
      dsimp only
      cases w.2.action with
      | discard => exact hd _
      | deliver => exact ⟨_, _, _, rfl⟩
      | forward m =>
        dsimp only
        split
        · exact hd _
        · split
          · exact ⟨_, _, _, rfl⟩
          · exact hd _

/-- The rescue frame by frame: a queue with a frame at its tail is rescued as the queue before that frame, and then that frame
(R95, R96). -/
theorem State.rescue_snoc {s : State} {n : NbrIdx} {pre : List Handle} {h : Handle} (hq : s.queue n = pre ++ [h]) :
    s.rescue n = rescueOne ((s.setQueue n pre).rescue n) h := by
  have he : (s.setQueue n pre).setQueue n [] = s.setQueue n [] := by
    simp [State.setQueue, Tab.put]
  have hp : (s.setQueue n pre).queue n = pre := by rw [State.queue_setQueue, if_pos rfl]
  unfold State.rescue
  rw [hq, hp, he, List.foldl_append]
  rfl

/-- A rescue touches neighbour records, entries and the frame store alone. -/
theorem State.rescue_spec (s : State) (n : NbrIdx) :
    ∃ nbrs entries store, (s.rescue n).1 =
      { s with mon := { s.mon with nbrs := nbrs }, path := { s.path with entries := entries }, store := store } := by
  unfold State.rescue
  suffices ∀ (l : List Handle) (acc : State × Rescue), ∃ nbrs entries store, (l.foldl rescueOne acc).1 =
      { acc.1 with mon := { acc.1.mon with nbrs := nbrs }, path := { acc.1.path with entries := entries }, store := store } by
    obtain ⟨a, b, c, h⟩ := this (s.queue n) (s.setQueue n [], ⟨0, 0⟩)
    exact ⟨a, b, c, h⟩
  intro l
  induction l with
  | nil => exact fun acc => ⟨_, _, _, rfl⟩
  | cons x rest ih =>
    intro acc
    obtain ⟨a, b, c, h⟩ := rescueOne_spec acc x
    obtain ⟨a', b', c', h'⟩ := ih (rescueOne acc x)
    exact ⟨a', b', c', by rw [List.foldl_cons, h', h]⟩

/-- A change of a neighbour's state leaves settings, floors, masks, scheduler, identity, scan settings and replies alone. -/
theorem State.changeState_spec (s : State) (n : NbrIdx) (new : LinkState) (cause : LinkCause) :
    ∃ nbrs entries store radio st ignored phase notices, s.changeState n new cause =
      { s with
        mon := { s.mon with nbrs := nbrs }
        path := { s.path with entries := entries }
        store := store
        radio := radio
        scan := { s.scan with state := st, ignored := ignored }
        link := { s.link with phase := phase, notices := notices } } := by
  unfold State.changeState State.afterChange
  dsimp only
  obtain ⟨e, hp⟩ := (s.modNbr n fun r => { r.clearRuns with state := new }).parkFor_spec n (s.nbr n).state new
  rw [hp]
  split
  · obtain ⟨a, b, c, hr⟩ := State.rescue_spec
      { s.modNbr n fun r => { r.clearRuns with state := new } with
        path := { (s.modNbr n fun r => { r.clearRuns with state := new }).path with entries := e } } n
    rw [hr]
    obtain ⟨radio, st, ignored, ht⟩ := State.lossTrigger_spec
      { { s.modNbr n fun r => { r.clearRuns with state := new } with
          path := { (s.modNbr n fun r => { r.clearRuns with state := new }).path with entries := e } } with
        mon := { s.mon with nbrs := a }, path := { s.path with entries := b }, store := c }
    exact ⟨_, _, _, _, _, _, _, _, by erw [ht]; rfl⟩
  · exact ⟨_, _, _, _, _, _, _, _, rfl⟩

/-- An observation leaves settings, floors, masks, scheduler, identity, scan settings and replies alone. -/
theorem State.observe_spec (s : State) (n : NbrIdx) (sample : Option Int) :
    ∃ nbrs entries store radio st ignored phase notices, s.observe n sample =
      { s with
        mon := { s.mon with nbrs := nbrs }
        path := { s.path with entries := entries }
        store := store
        radio := radio
        scan := { s.scan with state := st, ignored := ignored }
        link := { s.link with phase := phase, notices := notices } } := by
  unfold State.observe
  dsimp only
  split
  · split
    · next new cause _ =>
      obtain ⟨a, b, c, d, e, f, g, i, h⟩ := State.changeState_spec _ n new cause
      exact ⟨a, b, c, d, e, f, g, i, h⟩
    · exact ⟨_, _, _, _, _, _, _, _, rfl⟩
  · exact ⟨_, _, _, _, _, _, _, _, rfl⟩

/-! ## Settling -/

/-- Settling touches neighbour records and the frame store alone. -/
theorem State.settle_spec (s : State) (n : NbrIdx) (set : List (Handle × Seq)) (list : List Seq) :
    ∃ nbrs store, s.settle n set list = { s with mon := { s.mon with nbrs := nbrs }, store := store } := by
  have one : ∀ (s : State) (hq : Handle × Seq),
      ∃ nbrs store, settleOne n list s hq = { s with mon := { s.mon with nbrs := nbrs }, store := store } := by
    intro s hq
    unfold settleOne
    split
    · obtain ⟨a, b, h⟩ := (s.unqueue n hq.1).release_spec hq.1
      exact ⟨_, _, by rw [h]; rfl⟩
    · unfold State.retryFrame
      dsimp only
      split
      · exact ⟨_, _, rfl⟩
      · split
        · obtain ⟨a, b, c, h⟩ := State.discard_spec (State.unqueue (s.modCounters n fun c =>
            { c with retries := bump 65535 c.retries }) n hq.1) .retry hq.1
          exact ⟨_, _, h⟩
        · exact ⟨_, _, rfl⟩
  have all : ∀ (l : List (Handle × Seq)) (s : State),
      ∃ nbrs store, l.foldl (settleOne n list) s = { s with mon := { s.mon with nbrs := nbrs }, store := store } := by
    intro l
    induction l with
    | nil => exact fun s => ⟨_, _, rfl⟩
    | cons x rest ih =>
      intro s
      obtain ⟨a, b, h⟩ := one s x
      obtain ⟨a', b', h'⟩ := ih (settleOne n list s x)
      exact ⟨a', b', by rw [List.foldl_cons, h', h]⟩
  obtain ⟨a, b, h⟩ := all set s
  exact ⟨_, _, by rw [State.settle, h]; rfl⟩

end Sys2Proof.Machine
end

