-- ==== Sys2Proof/Laws/PerInstr.lean ====
section
/-! SUPPORT. The statement made of every command: what its record, where it has one, looks like. -/

namespace Sys2Proof.Laws

open Sys2Proof Sys2Proof.Machine

/-- The record of a well-formed request carries its request kind, the length of its body, and a body of a length that the kind
allows (R154, R155, R175). -/
def RecordShape.Statement (i : Instr) : Prop :=
  ∀ bytes : List Byte, i.wf = true → encodeRecord i = some bytes →
    ∃ (k : Byte) (body : List Byte), requestKind i = some k ∧ bytes = requestRecord k body ∧ allowedLength k body.length = true

/-- A record with this kind and a body of an allowed length has the shape. -/
theorem recordShape_of {i : Instr} (k : Byte) (body : List Byte) (hk : requestKind i = some k)
    (he : encodeRecord i = some (requestRecord k body)) (hl : allowedLength k body.length = true) : RecordShape.Statement i := by
  intro bytes _ hb
  rw [he] at hb
  injection hb with hb
  exact ⟨k, body, hk, hb.symm, hl⟩

/-- A command without a record has nothing to show. -/
theorem recordShape_vacant {i : Instr} (he : encodeRecord i = none) : RecordShape.Statement i := by
  intro bytes _ hb
  rw [he] at hb
  cases hb

theorem RecordShape.selectFall : RecordShape.Statement .selectFall := recordShape_vacant rfl
theorem RecordShape.write : RecordShape.Statement .write := recordShape_vacant rfl
theorem RecordShape.read : RecordShape.Statement .read := recordShape_vacant rfl
theorem RecordShape.invalidTransactionKind : RecordShape.Statement .invalidTransactionKind := recordShape_vacant rfl
theorem RecordShape.malformedRecord (kind : Option Byte) (len : Option Half) (taken : Half) :
    RecordShape.Statement (.malformedRecord kind len taken) := recordShape_vacant rfl
theorem RecordShape.readCompletion : RecordShape.Statement .readCompletion := recordShape_vacant rfl
theorem RecordShape.readEndedEarly : RecordShape.Statement .readEndedEarly := recordShape_vacant rfl
theorem RecordShape.linkSettings (wr : Byte) (c : CarriedSettings) : RecordShape.Statement (.linkSettings wr c) :=
  recordShape_of _ _ rfl rfl rfl
theorem RecordShape.neighbourEnrol (i : Byte) (n : Half) (h c : Byte) : RecordShape.Statement (.neighbourEnrol i n h c) :=
  recordShape_of _ _ rfl rfl rfl
theorem RecordShape.neighbourRetire (i : Byte) : RecordShape.Statement (.neighbourRetire i) :=
  recordShape_of _ _ rfl rfl rfl
theorem RecordShape.neighbourConfirm (i : Byte) : RecordShape.Statement (.neighbourConfirm i) :=
  recordShape_of _ _ rfl rfl rfl
theorem RecordShape.neighbourQuery (i c : Byte) : RecordShape.Statement (.neighbourQuery i c) :=
  recordShape_of _ _ rfl rfl rfl
theorem RecordShape.lookup (k : CarriedKey) : RecordShape.Statement (.lookup k) :=
  recordShape_of _ _ rfl rfl rfl
theorem RecordShape.find (st any : Byte) (k : CarriedKey) : RecordShape.Statement (.find st any k) :=
  recordShape_of _ _ rfl rfl rfl
theorem RecordShape.findFree (any : Byte) (k : CarriedKey) : RecordShape.Statement (.findFree any k) :=
  recordShape_of _ _ rfl rfl rfl
theorem RecordShape.entryWrite (i : Half) (e : CarriedEntry) : RecordShape.Statement (.entryWrite i e) :=
  recordShape_of _ _ rfl rfl rfl
theorem RecordShape.entryPlace (e : CarriedEntry) : RecordShape.Statement (.entryPlace e) :=
  recordShape_of _ _ rfl rfl rfl
theorem RecordShape.entryRead (i : Half) : RecordShape.Statement (.entryRead i) :=
  recordShape_of _ _ rfl rfl rfl
theorem RecordShape.entryState (t : Half) (st : Byte) : RecordShape.Statement (.entryState t st) :=
  recordShape_of _ _ rfl rfl rfl
theorem RecordShape.tableClear (sc : Byte) : RecordShape.Statement (.tableClear sc) :=
  recordShape_of _ _ rfl rfl rfl
theorem RecordShape.maskSet (p : Byte) (i : Half) (c g : Byte) : RecordShape.Statement (.maskSet p i c g) :=
  recordShape_of _ _ rfl rfl rfl
theorem RecordShape.maskSelect (p : Byte) : RecordShape.Statement (.maskSelect p) :=
  recordShape_of _ _ rfl rfl rfl
theorem RecordShape.frameSend (d : Half) (c h : Byte) (p : List Byte) : RecordShape.Statement (.frameSend d c h p) := by
  intro bytes hw hb
  simp only [Instr.wf, Bool.and_eq_true, decide_eq_true_eq] at hw
  simp only [encodeRecord, Option.some.injEq] at hb
  refine ⟨_, _, rfl, hb.symm, ?_⟩
  have : (halfBytes d ++ [c, h] ++ p).length = 4 + p.length := by simp [halfBytes]; omega
  rw [this]
  simp only [allowedLength]
  simp
  omega
theorem RecordShape.counters (c : Byte) : RecordShape.Statement (.counters c) :=
  recordShape_of _ _ rfl rfl rfl
theorem RecordShape.slotLength (v : Half) : RecordShape.Statement (.slotLength v) :=
  recordShape_of _ _ rfl rfl rfl
theorem RecordShape.mapWrite (m f p : Byte) (check : Half) (codes : List Half) :
    RecordShape.Statement (.mapWrite m f p check codes) := by
  intro bytes hw hb
  simp only [Instr.wf, Bool.and_eq_true, decide_eq_true_eq] at hw
  simp only [encodeRecord, Option.some.injEq] at hb
  refine ⟨_, _, rfl, hb.symm, ?_⟩
  have : ∀ cs : List Half, (cs.flatMap halfBytes).length = 2 * cs.length := by
    intro cs
    induction cs with
    | nil => rfl
    | cons c cs ih => simp only [List.flatMap_cons, List.length_append, ih, List.length_cons]; simp [halfBytes]; omega
  have hl : ([m, f, p] ++ halfBytes check ++ codes.flatMap halfBytes).length = 5 + 2 * codes.length := by
    simp only [List.length_append, this]
    simp [halfBytes]
  rw [hl]
  simp only [allowedLength]
  simp
  omega
theorem RecordShape.mapRead (m : Byte) : RecordShape.Statement (.mapRead m) :=
  recordShape_of _ _ rfl rfl rfl
theorem RecordShape.mapSwitch : RecordShape.Statement .mapSwitch :=
  recordShape_of _ _ rfl rfl rfl
theorem RecordShape.scheduleStart : RecordShape.Statement .scheduleStart :=
  recordShape_of _ _ rfl rfl rfl
theorem RecordShape.scheduleStop : RecordShape.Statement .scheduleStop :=
  recordShape_of _ _ rfl rfl rfl
theorem RecordShape.timingSet (i : Byte) : RecordShape.Statement (.timingSet i) :=
  recordShape_of _ _ rfl rfl rfl
theorem RecordShape.scanSet (m a b x y : Byte) : RecordShape.Statement (.scanSet m a b x y) :=
  recordShape_of _ _ rfl rfl rfl
theorem RecordShape.scanStart : RecordShape.Statement .scanStart :=
  recordShape_of _ _ rfl rfl rfl
theorem RecordShape.scanHalt : RecordShape.Statement .scanHalt :=
  recordShape_of _ _ rfl rfl rfl
theorem RecordShape.identify (n : Half) (e : Byte) : RecordShape.Statement (.identify n e) :=
  recordShape_of _ _ rfl rfl rfl
theorem RecordShape.status : RecordShape.Statement .status :=
  recordShape_of _ _ rfl rfl rfl
theorem RecordShape.restartWarm : RecordShape.Statement .restartWarm :=
  recordShape_of _ _ rfl rfl rfl
theorem RecordShape.restartCold : RecordShape.Statement .restartCold :=
  recordShape_of _ _ rfl rfl rfl
theorem RecordShape.powerOn : RecordShape.Statement .powerOn := recordShape_vacant rfl
theorem RecordShape.reset : RecordShape.Statement .reset := recordShape_vacant rfl
theorem RecordShape.coldStartCompletion : RecordShape.Statement .coldStartCompletion := recordShape_vacant rfl
theorem RecordShape.supplyLowAssertion : RecordShape.Statement .supplyLowAssertion := recordShape_vacant rfl
theorem RecordShape.supplyLowDeassertion : RecordShape.Statement .supplyLowDeassertion := recordShape_vacant rfl
theorem RecordShape.slotStart : RecordShape.Statement .slotStart := recordShape_vacant rfl
theorem RecordShape.bodyStart : RecordShape.Statement .bodyStart := recordShape_vacant rfl
theorem RecordShape.burstEnd : RecordShape.Statement .burstEnd := recordShape_vacant rfl
theorem RecordShape.beaconEnd : RecordShape.Statement .beaconEnd := recordShape_vacant rfl
theorem RecordShape.quietCode (c : BitVec 10) : RecordShape.Statement (.quietCode c) := recordShape_vacant rfl
theorem RecordShape.tailStart : RecordShape.Statement .tailStart := recordShape_vacant rfl
theorem RecordShape.rxFrameArrival (b : List Byte) (c : BitVec 10) : RecordShape.Statement (.rxFrameArrival b c) := recordShape_vacant rfl
theorem RecordShape.acksetArrival (b : List Byte) (c : BitVec 10) : RecordShape.Statement (.acksetArrival b c) := recordShape_vacant rfl
theorem RecordShape.dwellFrameArrival (b : List Byte) (c : BitVec 10) (t : Nat) : RecordShape.Statement (.dwellFrameArrival b c t) := recordShape_vacant rfl
theorem RecordShape.slotEnd : RecordShape.Statement .slotEnd := recordShape_vacant rfl
theorem RecordShape.superframeBoundary : RecordShape.Statement .superframeBoundary := recordShape_vacant rfl
theorem RecordShape.acksetEnd : RecordShape.Statement .acksetEnd := recordShape_vacant rfl
theorem RecordShape.restartRange (form : Byte) : RecordShape.Statement (.restartRange form) :=
  recordShape_of _ _ rfl rfl rfl

end Sys2Proof.Laws
end

