-- ==== Sys2Proof/Laws/Slots.lean ====
section
/-! SUPPORT. What the work of slots and dwells can touch, and distances in the receive window. -/

namespace Sys2Proof.Machine

open Sys2Proof

/-- The distance by which one sequence lies behind another, as a number (R83). -/
theorem behind_eq (h q : Seq) : behind h q = (4096 + h.toNat - q.toNat) % 4096 := by
  have := q.isLt
  simp only [behind, BitVec.toNat_sub]
  congr 1
  omega

/-- The members of a window are the members of the set within the 32 sequences that end at the highest. -/
theorem mem_windowOf {h q : Seq} {set : List Seq} : q ∈ windowOf h set ↔ q ∈ set ∧ behind h q ≤ 31 := by
  unfold windowOf
  simp only [List.mem_filter, List.mem_map, List.mem_reverse, List.mem_range, List.contains_iff_mem]
  constructor
  · rintro ⟨⟨k, hk, rfl⟩, hm⟩
    refine ⟨hm, ?_⟩
    have : behind h (h - BitVec.ofNat 12 k) = k := by
      unfold behind
      have e : h - (h - BitVec.ofNat 12 k) = BitVec.ofNat 12 k := sub_sub_cancel _ _
      rw [e, BitVec.toNat_ofNat]
      omega
    omega
  · rintro ⟨hm, hb⟩
    refine ⟨⟨behind h q, by omega, ?_⟩, hm⟩
    unfold behind
    rw [BitVec.ofNat_toNat, BitVec.setWidth_eq]
    exact sub_sub_cancel _ _

/-- A SCHEDULER posting and a measurement touch the scheduler and the notices alone. -/
theorem State.measure_spec (s : State) (b : HeardBeacon) :
    ∃ pendingD lastD drift phase notices, s.measure b =
      { s with
        sched := { s.sched with pendingD := pendingD, lastD := lastD, holds := { s.sched.holds with drift := drift } }
        link := { s.link with phase := phase, notices := notices } } := by
  unfold State.measure
  split
  · exact ⟨_, _, _, _, _, rfl⟩
  · split
    · unfold State.judgeDrift
      dsimp only
      split
      · exact ⟨_, _, _, _, _, rfl⟩
      · split
        · exact ⟨_, _, _, _, _, rfl⟩
        · exact ⟨_, _, _, _, _, rfl⟩
    · exact ⟨_, _, _, _, _, rfl⟩

/-- A beacon at the link monitor leaves settings, floors, masks, scheduler, identity, scan settings and replies alone. -/
theorem State.takeBeacon_spec (s : State) (sec : Sector) (b : HeardBeacon) :
    ∃ nbrs entries store radio st ignored phase notices, s.takeBeacon sec b =
      { s with
        mon := { s.mon with nbrs := nbrs }
        path := { s.path with entries := entries }
        store := store
        radio := radio
        scan := { s.scan with state := st, ignored := ignored }
        link := { s.link with phase := phase, notices := notices } } := by
  have chg : ∀ (t : State) (nbrs : Tab Nbr 16), t = { s with mon := { s.mon with nbrs := nbrs } } →
      ∀ (n : NbrIdx) (new : LinkState) (cause : LinkCause),
      ∃ nbrs entries store radio st ignored phase notices, t.changeState n new cause =
        { s with
          mon := { s.mon with nbrs := nbrs }
          path := { s.path with entries := entries }
          store := store
          radio := radio
          scan := { s.scan with state := st, ignored := ignored }
          link := { s.link with phase := phase, notices := notices } } := by
    rintro t nbrs rfl n new cause
    exact State.changeState_spec _ n new cause
  unfold State.takeBeacon
  dsimp only
  split
  · exact ⟨_, _, _, _, _, _, _, _, rfl⟩
  · split
    · unfold State.acquire
      dsimp only
      split
      · split
        · exact ⟨_, _, _, _, _, _, _, _, rfl⟩
        · exact ⟨_, _, _, _, _, _, _, _, rfl⟩
      · split
        · exact chg _ _ rfl _ _ _
        · split
          · exact chg _ _ rfl _ _ _
          · exact chg _ _ rfl _ _ _
    · split
      · unfold State.epochChange
        dsimp only
        split
        · exact ⟨_, _, _, _, _, _, _, _, rfl⟩
        · exact chg _ _ rfl _ _ _
      · split
        · exact State.observe_spec _ _ _
        · unfold State.handover
          dsimp only
          split
          · exact ⟨_, _, _, _, _, _, _, _, rfl⟩
          · split
            · exact ⟨_, _, _, _, _, _, _, _, rfl⟩
            · exact ⟨_, _, _, _, _, _, _, _, rfl⟩

end Sys2Proof.Machine
end

