-- ==== Sys2Proof/Tests/Slice0.lean ====
section
/-! SUPPORT. The model's own tests: the well-formedness smoke test, records and frames read back, one step each of the commands on
the figures that spec/ works out, and a witness for the hypotheses of every statement. -/

namespace Sys2Proof.Tests

-- Every kernel evaluation runs on the main thread: in parallel they use up the memory limit.
set_option Elab.async false

open Sys2Proof Sys2Proof.Machine

/-! ## Small states -/

/-- The state after a command. -/
def after (c : Instr) (s : State) : State :=
  match exec c s with
  | .next t => t
  | .fault _ => s
  | .refused _ => s

/-- The reply that waits after a command. -/
def answer (c : Instr) (s : State) : Option (ResultCode × ReplyBody) := (after c s).link.reply.map fun r => (r.code, r.body)

/-- After reset, with the START notice read and a WRITE taken. -/
def host : State := { State.reset with link := { State.reset.link with phase := .writing, notices := [] } }

/-- Node 40 of the worked sequences, epoch 5, without neighbours. -/
def node40 : State :=
  { host with part := { host.part with identity := some ⟨40, 5⟩ }
              sched := { host.sched with holds := ⟨false, false, false⟩ } }

/-- A heard neighbour. -/
def nbrOn (st : LinkState) (id : Nat) (sec : Sector) (ep : Byte) (acc : Int) : Nbr :=
  { Nbr.vacant with state := st, nodeId := some id, sector := some sec, epoch := some ep, acc := some acc }

/-- A path entry for class 0 and ingress 16. -/
def route (st : RouteState) (dest : BitVec 12) (action : Action) : Entry := some ⟨st, ⟨dest, 0, .host⟩, action, 0⟩

/-- The small table of 03 with neighbours 2 and 7 in the states given; sector 4 has noise floor 150. -/
def pointIn (st2 st7 : LinkState) : State :=
  let s := (node40.setNbr 2 (nbrOn st2 212 1 9 1600)).setNbr 7 (nbrOn st7 118 4 41 1360)
  let s := ((s.setEntry 0 (route .live 212 (.forward 2))).setEntry 1 (route .live 212 (.forward 7))).setEntry 2
    (route .live 224 (.forward 7))
  let s := (s.setEntry 3 (route .barred 230 (.forward 2))).setEntry 4 (route .live 4095 .discard)
  { s with mon := { s.mon with floors := s.mon.floors.put 4 150 } }

/-- That point with both neighbours UP. -/
def point : State := pointIn .up .up

/-- A frame in a transmit queue. -/
def queuedFrame (n : NbrIdx) (q : Seq) (len retries : Nat) (pages : List Nat) : Option FrameRec :=
  some { place := .queue n, ing := .host, dest := 224, cls := 0, hops := 8, len := len, pages := pages, seq := some q,
         retries := some retries, unrouted := none }

/-- The point with queue 7 as the four TX slots of 06 find it, and one frame to deliver. -/
def stocked : State :=
  let s := (point.setFrame 12 (queuedFrame 7 530 1000 0 (List.range' 0 11))).setFrame 13
    (queuedFrame 7 531 1000 3 (List.range' 11 11))
  let s := (s.setFrame 14 (queuedFrame 7 532 600 0 (List.range' 22 7))).setFrame 15
    (queuedFrame 7 533 300 0 (List.range' 29 4))
  let s := (s.setFrame 16 (queuedFrame 7 534 1440 0 (List.range' 33 15))).setFrame 2
    (some { place := .delivery, ing := .nbr 7, dest := 40, cls := 0, hops := 5, len := 300, pages := List.range' 48 4,
            seq := none, retries := none, unrouted := some false })
  let s := (s.setQueue 7 [12, 13, 14, 15, 16]).modNbr 7 fun r => { r with txSeq := 535 }
  { s with store := { s.store with delivery := [2], pool := List.range' 52 108 } }

/-- The worked map of 07, with its check word. -/
def workedCodes : List Half :=
  [768, 769, 258, 514, 770, 771, 263, 519, 772, 773, 1024, 258, 514, 263, 519, 0, 0, 0, 0, 0, 0, 0, 0, 0, 0, 0, 0, 0, 0,
    0, 0, 1024]

/-- That map as stored. -/
def workedMap : SlotMap := { codes := ⟨workedCodes.toArray, by decide⟩, check := 55756 }

/-- A state with the worked map active, at a place in the superframe. -/
def at_ (p : Progress) (s : State) : State :=
  { s with sched := { s.sched with state := .running p, maps := s.sched.maps.put 0 workedMap } }

/-- An open slot. -/
def slot (i : SlotIdx) (k : SlotKind) (p : SlotPart) : Progress :=
  .opened { index := i, kind := k, part := p, corr := 0, boundaryTaken := false }

/-- A TX slot for neighbour 7 with the first three frames of its queue in flight. -/
def txCtx : TxCtx :=
  { nbr := some 7, sector := 4, tier := 2, cost := 2, content := .frames [(12, 530), (13, 531), (14, 532)], phase := .burst,
    ackset := none }

/-- The same in LISTEN. -/
def listening : TxCtx := { txCtx with phase := .listen }

/-- That slot in its body, the burst on the air. -/
def inBurst : State :=
  let s := at_ (slot 6 (.tx 7) .body) stocked
  { s with radio := { s.radio with tx := some txCtx, txon := true, sector := some 4,
                                   onAir := some { kind := .burst, sector := 4, tier := 2, frames := [] } } }

/-- That slot in its tail. -/
def inTxTail : State :=
  let s := at_ (slot 6 (.tx 7) .tail) stocked
  { s with radio := { s.radio with tx := some listening, rxon := true, sector := some 4 } }

/-- The RX slot of 05: neighbour 7's window holds H = 100 and the seen set 90, 95, 99, 100. -/
def inRx (st : LinkState) (p : SlotPart) : State :=
  let s := at_ (slot 7 (.rx 7) p) (pointIn .up st)
  let s := s.modNbr 7 fun r => { r with high := some 100, seen := [90, 95, 99, 100] }
  { s with radio := { s.radio with rx := some ⟨7, 4, none, false, []⟩, rxon := true, sector := some 4 } }

/-- A DATA frame from neighbour 7 to node 40. -/
def dataFrom7 (q : Seq) (dest : BitVec 12) (hops : BitVec 4) : DataFrame :=
  { tx := 118, rx := 40, seq := q, dest := dest, cls := 0, hops := hops, payload := [1, 2, 3] }

/-- A dwell on sector 4 in slot 10. -/
def dwell : Dwell := { sector := 4, count := 40, slot := 10, quiet := none, beacons := [], heard := 0, failed := 0, other := 0 }

/-- The SCAN slot of that dwell. -/
def inDwell (p : SlotPart) : State :=
  let s := at_ (slot 10 .scan p) point
  { s with scan := { s.scan with state := .dwelling dwell }, radio := { s.radio with rxon := true, sector := some 4 } }

/-- A beacon of node 118. -/
def beacon118 (code : Code) (sl : Byte) (time : Nat) : HeardBeacon :=
  { nodeId := 118, epoch := 41, slot := sl, offset := 20, code := code, localTime := time }

/-! ## Well-formedness: an ill-formed term for each check -/

theorem test_wf_malformed_needs_a_reason : (Instr.malformedRecord (some 0x1C) (some 0) 0).wf = false := by decide
theorem test_wf_malformed_takes_none_without_length : (Instr.malformedRecord (some 0x0F) none 1).wf = false := by decide
theorem test_wf_malformed_takes_none_beyond_1448 : (Instr.malformedRecord (some 0x0F) (some 1449) 1).wf = false := by decide
theorem test_wf_malformed_takes_within_its_length : (Instr.malformedRecord (some 0x0F) (some 4) 5).wf = false := by decide
theorem test_wf_malformed_has_no_length_without_kind : (Instr.malformedRecord none (some 5) 0).wf = false := by decide
theorem test_wf_find_free_has_its_own_row : (Instr.find 0 0 ⟨212, 0, 16⟩).wf = false := by decide
theorem test_wf_send_needs_a_payload : (Instr.frameSend 212 0 0 []).wf = false := by decide
theorem test_wf_send_carries_at_most_1440 : (Instr.frameSend 212 0 0 (List.replicate 1441 0)).wf = false := by decide +kernel
theorem test_wf_map_write_needs_a_code : (Instr.mapWrite 0 0 0 0 []).wf = false := by decide
theorem test_wf_map_write_carries_at_most_32 : (Instr.mapWrite 0 0 0 0 (List.replicate 33 0)).wf = false := by decide
theorem test_wf_restart_range_is_neither_form :
    (Instr.restartRange 0).wf = false ∧ (Instr.restartRange 1).wf = false := by decide
theorem test_wf_dwell_arrival_is_within_the_superframe :
    (Instr.dwellFrameArrival [] 0 128025).wf = false ∧ (Instr.dwellFrameArrival [] 0 128024).wf = true := by decide

/-! ## Records and frames -/

/-- The first byte WRITE 3A, READ C5, or neither (R175). -/
theorem test_first_byte :
    decodeFirstByte 0x3A = .write ∧ decodeFirstByte 0xC5 = .read ∧ decodeFirstByte 0x3B = .invalidTransactionKind := by decide

/-- A READ clocks out the status byte, then the record, then filler 00 (R159, R175). -/
theorem test_sends :
    (Phase.selected 0xA0).sends 0 = some 0xA0
      ∧ [1, 2, 3, 4].map (Phase.reading .empty [0xF0, 0, 0] ⟨0, none⟩).sends = [some 0xF0, some 0, some 0, some 0] := by decide

/-- The delimiter goes first; an ACKSET takes 584 air ticks and a BEACON 464 at tier 0 (R176). -/
theorem test_sent_frames :
    (delimited (beaconBytes 40 5 4 20)).take 8 = [0x7E, 0x81, 0x5A, 0xA5, 0x3C, 0xC3, 0x3C, 0x04]
      ∧ frameTicks 0 (delimited (acksetBytes 40 118 [101])) = 584 ∧ frameTicks 0 (delimited (beaconBytes 40 5 4 20)) = 464 := by
  decide +kernel

/-- ENTRY WRITE of 12, section 12.1, byte by byte from R175. -/
theorem test_record_entry_write :
    decodeRecord [0x08, 0, 9, 0, 1, 0, 0xD4, 0, 16, 0, 7, 1] = some (.entryWrite 1 ⟨⟨212, 0, 16⟩, 0, 7, 1⟩) := by decide

/-- IDENTIFY 40, epoch 5 (12, section 12.1). -/
theorem test_record_identify : decodeRecord [0x1B, 0, 3, 0, 40, 5] = some (.identify 40 5) := by decide

/-- The link status bytes of 09, section 9.9, transactions 1, 4 and 7. -/
theorem test_status_bytes :
    State.reset.statusByte = 0xA0
      ∧ ({ host with link := { host.link with reply := some ⟨some 0x1B, .ok, .empty⟩, error := true } } : State).statusByte = 0x48
      ∧ ({ host with link := { host.link with reply := some ⟨some 2, .ok, .empty⟩, error := true
                                              notices := State.reset.link.notices } } : State).statusByte = 0x68 := by
  decide

/-- The check register of R176 over the nine digits, a check value published for this register, preset and complement. -/
theorem test_frame_check : frameCheck [0x31, 0x32, 0x33, 0x34, 0x35, 0x36, 0x37, 0x38, 0x39] = 0xFC891918 := by decide +kernel

/-- A DATA frame's fields stand where R176 puts them. -/
theorem test_data_frame_layout :
    (dataBytes (dataFrom7 101 40 5)).take 17 = [0x3C, 0x01, 0, 118, 0, 40, 0, 101, 0, 40, 0, 5, 0, 3, 1, 2, 3] := by
  decide +kernel

/-! ## Arithmetic (01) -/

/-- The smoothing table of 01, rows 1, 4, 5 and 6, and the edge case A = 643. -/
theorem test_smoothing_figures :
    smooth 2 (some 1600) false 40 = 1360 ∧ smooth 2 (some 1045) false 40 = 943 ∧ smooth 2 (some 943) false 40 = 867
      ∧ smooth 2 (some 867) false 120 = 1130 ∧ smooth 2 (some 643) false 40 = 642 := by decide

/-- The tier table of 01. -/
theorem test_tier_figures :
    tierOf .default 3 (some 100) = 2 ∧ tierOf .default 3 (some 73) = 1 ∧ tierOf .default 3 (some 112) = 3
      ∧ tierOf .default 3 (some 47) = 0 ∧ tierOf .default 1 (some 112) = 1 := by decide

/-- The airtime table of 01. -/
theorem test_airtime_figures :
    slotBody 1000 = 7040 ∧ airtime 2 1000 = 2368 ∧ burstAirtime 2 [1000, 1000, 600] = 6560
      ∧ burstAirtime 2 [1000, 1000, 600, 300] = 7656 ∧ airtime 8 1440 = 12032 := by decide

/-! ## Link monitor (02) -/

/-- Sample 1 and miss 2 of the fading link. -/
theorem test_observe_fading_link :
    ((point.observe 2 (some 10)).nbr 2).acc = some 1240 ∧ ((point.observe 2 (some 10)).nbr 2).good = 1
      ∧ (((point.modNbr 2 fun r => { r with acc := some 303, fade := 3, miss := 1 }).observe 2 none).nbr 2).state = .weak := by
  decide +kernel

/-- Parking after that fade: entry 0 is PARKED, entry 3 stays BARRED, entry 1 stays LIVE (03, worked figures, event 3). -/
theorem test_fade_parks_the_routes :
    let t := (point.modNbr 2 fun r => { r with fade := 3 }).observe 2 none
    t.entry 0 = route .parked 212 (.forward 2) ∧ t.entry 3 = point.entry 3 ∧ t.entry 1 = point.entry 1
      ∧ t.link.notices.map (·.changes) = [1] := by
  decide +kernel

/-- The three beacons of 02: acquired with A = 960, kept SEEKING with its sector set, moved by the handover test. -/
theorem test_beacons_in_one_dwell :
    let s := { point with mon := { point.mon with floors := point.mon.floors.put 4 150 } }
    let lost := s.setNbr 2 (nbrOn .lost 212 1 9 192)
    let seeking := s.setNbr 5 { Nbr.vacant with state := .seeking, nodeId := some 305 }
    let up := s.setNbr 7 (nbrOn .up 118 3 41 1408)
    let a := (lost.takeBeacon 4 ⟨212, 9, 0, 20, 210, 0⟩).nbr 2
    let b := (seeking.takeBeacon 4 ⟨305, 3, 0, 20, 175, 0⟩).nbr 5
    let c := (up.takeBeacon 4 (beacon118 260 0 0)).nbr 7
    (a.state, a.sector, a.acc) = (.weak, some 4, some 960) ∧ (b.state, b.sector) = (.seeking, some 4)
      ∧ (c.state, c.sector, c.acc) = (.up, some 4, some 1760) := by
  decide +kernel

/-! ## Requests -/

/-- LINK SETTINGS: a retry limit of 99 is clamped to 15 and named; crossed thresholds are refused (R13). -/
theorem test_link_settings :
    let c : CarriedSettings := ⟨2, 24, 40, 4, 6, 8, 48, 80, 112, 16, 99, 64, 12⟩
    answer (.linkSettings 1 c) host = some (.ok, .settings { LinkSettings.default with retryLimit := 15 } [.retryLimit])
      ∧ answer (.linkSettings 1 { c with t1 := 80 }) host = some (.range, .settings .default []) := by
  decide +kernel

/-- NEIGHBOUR ENROL index 2, node 212, hint 1: OK with cap 3, SEEKING, LINK 2 pending (12, section 12.1). -/
theorem test_enrol :
    answer (.neighbourEnrol 2 212 1 0xFF) node40 = some (.ok, .enrolled 2 3 false)
      ∧ ((after (.neighbourEnrol 2 212 1 0xFF) node40).nbr 2).state = .seeking
      ∧ (after (.neighbourEnrol 2 212 1 0xFF) node40).link.notices.map (·.source) = [.link 2] := by
  decide +kernel

/-- NEIGHBOUR RETIRE frees the two entries that name neighbour 2, BARRED or not (R60). -/
theorem test_retire :
    answer (.neighbourRetire 2) point = some (.ok, .retired 2 0) ∧ (after (.neighbourRetire 2) point).entry 3 = none
      ∧ answer (.neighbourRetire 7) stocked = some (.ok, .retired 2 5) := by
  decide +kernel

/-- NEIGHBOUR CONFIRM releases HELD into WEAK with the reseed mark (R31). -/
theorem test_confirm :
    let t := after (.neighbourConfirm 7) (pointIn .up .held)
    (t.nbr 7).state = .weak ∧ (t.nbr 7).reseed = true ∧ answer (.neighbourConfirm 7) point = some (.state, .linkState .up) := by
  decide +kernel

/-- NEIGHBOUR QUERY of neighbour 7: A = 1360, margin 85, tier 2 (06), with the clear option the counters go. -/
theorem test_query :
    let s := point.modNbr 7 fun r => { r with counters := ⟨1, 2, 3, 4, 5, 6, 7⟩ }
    (match answer (.neighbourQuery 7 1) s with
      | some (.ok, .neighbour r) => (r.margin, r.tier, r.counters.sent) == (some 85, 2, 1)
      | _ => false) = true
      ∧ ((after (.neighbourQuery 7 1) s).nbr 7).counters.refused = 0 := by
  decide +kernel

/-- LOOKUP 212: index 0, multiple-match set (03, worked figures, event 1); 230 is BARRED (03, small table). -/
theorem test_lookup :
    answer (.lookup ⟨212, 0, 16⟩) point = some (.ok, .found 0 true (route .live 212 (.forward 2)))
      ∧ answer (.lookup ⟨230, 0, 16⟩) point = some (.nomatch, .empty) := by
  decide +kernel

/-- FIND BARRED, any key, and FIND FREE, in the small table. -/
theorem test_find :
    answer (.find 3 1 ⟨0, 0, 0⟩) point = some (.ok, .found 3 false (point.entry 3))
      ∧ answer (.findFree 0 ⟨0, 0, 0⟩) point = some (.ok, .found 5 true none) := by
  decide +kernel

/-- ENTRY WRITE 0: 212, FORWARD 2, LIVE while neighbour 2 is SEEKING: PARKED; DELIVER: OK (12, section 12.1). -/
theorem test_entry_write :
    let e : CarriedEntry := ⟨⟨212, 0, 16⟩, 0, 2, 1⟩
    answer (.entryWrite 0 e) (pointIn .seeking .up)
        = some (.parked, .entryAt 0 (route .live 212 (.forward 2)) (route .parked 212 (.forward 2)))
      ∧ answer (.entryWrite 4 { e with action := 1 }) point
        = some (.ok, .entryAt 4 (route .live 4095 .discard) (route .live 212 .deliver)) := by
  decide +kernel

/-- ENTRY PLACE takes next-free; FORWARD to a VACANT neighbour is refused STATE (R53). -/
theorem test_entry_place :
    answer (.entryPlace ⟨⟨260, 0, 16⟩, 1, 0, 1⟩) point = some (.ok, .entryAt 5 none (route .live 260 .deliver))
      ∧ answer (.entryPlace ⟨⟨260, 0, 16⟩, 0, 9, 1⟩) point = some (.state, .empty) := by
  decide +kernel

/-- ENTRY READ (R54). -/
theorem test_entry_read :
    answer (.entryRead 2) point = some (.ok, .entry (route .live 224 (.forward 7)))
      ∧ answer (.entryRead 256) point = some (.range, .empty) := by
  decide +kernel

/-- ENTRY STATE LAST to BARRED, and entry 3 to LIVE (03, worked figures, events 5 and 8). -/
theorem test_entry_state :
    let s := { point with path := { point.path with lastMatch := some 0 } }
    answer (.entryState 0xFFFE 3) s = some (.ok, .entryAt 0 (route .live 212 (.forward 2)) (route .barred 212 (.forward 2)))
      ∧ answer (.entryState 3 1) point
        = some (.ok, .entryAt 3 (route .barred 230 (.forward 2)) (route .live 230 (.forward 2)))
      ∧ answer (.entryState 3 1) (pointIn .weak .up)
        = some (.parked, .entryAt 3 (route .barred 230 (.forward 2)) (route .parked 230 (.forward 2))) := by
  decide +kernel

/-- A BARRED request after the parking reports the change from PARKED, and before it from LIVE; the entry ends BARRED (R61). -/
theorem test_barred_reports_what_it_changed :
    answer (.entryState 0 3) (point.park 2)
        = some (.ok, .entryAt 0 (route .parked 212 (.forward 2)) (route .barred 212 (.forward 2)))
      ∧ ((after (.entryState 0 3) point).park 2).entry 0 = route .barred 212 (.forward 2) := by
  decide +kernel

/-- TABLE CLEAR of BARRED frees one entry, of ALL five (R57). -/
theorem test_table_clear :
    answer (.tableClear 3) point = some (.ok, .freed 1) ∧ answer (.tableClear 4) point = some (.ok, .freed 5)
      ∧ answer (.tableClear 0) point = some (.range, .empty) := by
  decide +kernel

/-- MASK SET of profile B, the five lowest positions ignored, and MASK SELECT B (03). -/
theorem test_masks :
    answer (.maskSet 1 31 0 0) point = some (.ok, .masks ⟨0, false, false⟩ ⟨31, false, false⟩ .a)
      ∧ (after (.maskSelect 1) point).path.active = .b ∧ answer (.maskSet 0 4096 0 0) point =
        some (.range, .masks ⟨0, false, false⟩ ⟨0, false, false⟩ .a) := by
  decide +kernel

/-- FRAME SEND to 212, 1000 bytes, hops 0: handle 0, sequence 4094, hops 8, 11 pages (04, step 1). -/
theorem test_frame_send :
    let s := point.modNbr 2 fun r => { r with txSeq := 4094 }
    let t := after (.frameSend 212 0 0 (List.replicate 1000 7)) s
    t.link.reply = some ⟨some 0x0F, .ok, .sent 0 2 4094 8 0⟩ ∧ t.store.freePages = 149 ∧ (t.nbr 2).txSeq = 4095
      ∧ t.queue 2 = [0] := by
  decide +kernel

/-- FRAME SEND with queue 2 at its limit: QUEUE, the winner's hit count rises (04, step 5). -/
theorem test_frame_send_queue :
    let s := { point with mon := { point.mon with settings := { point.mon.settings with queueLimit := 3 } } }
    let t := after (.frameSend 212 0 0 (List.replicate 96 7)) (s.setQueue 2 [0, 1, 3])
    (t.link.reply.map (·.code)) = some .queue ∧ t.queue 2 = [0, 1, 3] ∧ (t.entry 0).map (·.hits) = some 1 := by
  decide +kernel

/-- COUNTERS with the clear option (R73). -/
theorem test_counters :
    let s := { point with store := { point.store with foreign := 9, discards := ⟨1, 2, 3, 4, 5, 6, 7, 8⟩ } }
    answer (.counters 1) s = some (.ok, .counters ⟨1, 2, 3, 4, 5, 6, 7, 8⟩ 0 9)
      ∧ (after (.counters 1) s).store.discards.action = 0 := by
  decide +kernel

/-- SLOT LENGTH 1249 is taken as 1200 (R116). -/
theorem test_slot_length :
    answer (.slotLength 1249) host = some (.ok, .slotLength 1200 true)
      ∧ answer (.slotLength 1200) (at_ .awaitBoundary host) = some (.state, .empty) := by
  decide +kernel

/-- MAP WRITE of the worked map is valid with sum 65535; two more exchanges make its sum 771 (07). -/
theorem test_map_write :
    answer (.mapWrite 0 0 1 55756 workedCodes) host = some (.ok, .mapWritten 0 true 65535)
      ∧ (match answer (.mapWrite 0 15 0 0 [258, 514]) { at_ .awaitBoundary host with sched.state := .stopped } with
        | some (_, .mapWritten _ valid sum) => (valid, sum) == (false, 771)
        | _ => false) = true := by
  decide +kernel

/-- MAP READ of the worked map (R123). -/
theorem test_map_read :
    (match answer (.mapRead 0) (at_ .awaitBoundary host) with
      | some (_, .mapRead m valid sum active) => (m.codes.look 31, m.check, valid, sum, active) == (1024, 55756, true, 65535, true)
      | _ => false) = true := by
  decide +kernel

/-- MAP SWITCH while STOPPED, and staged while RUNNING (R124, R125). -/
theorem test_map_switch :
    answer .mapSwitch host = some (.ok, .activeMap 1)
      ∧ answer .mapSwitch (at_ (.awaitStart 3) host) = none
      ∧ (after .mapSwitch (at_ (.awaitStart 3) host)).link.staged = true := by
  decide +kernel

/-- SCHEDULE START and STOP (R126, R127). -/
theorem test_schedule :
    answer .scheduleStart host = some (.ok, .activeMap 0)
      ∧ (after .scheduleStart host).sched.state = .running (.awaitStart 0)
      ∧ answer .scheduleStop (inRx .up .body) = some (.ok, .stopped 0 (some 7))
      ∧ (after .scheduleStop (inRx .up .body)).radio.rx = none := by
  decide +kernel

/-- TIMING SET 7: OK, DRIFT not cleared (12, section 12.1). -/
theorem test_timing_set :
    answer (.timingSet 7) point = some (.ok, .timing (some 7) false) ∧ answer (.timingSet 9) point = some (.state, .empty)
      ∧ answer (.timingSet 16) point = some (.range, .empty) := by
  decide +kernel

/-- SCAN SET ONCE, 0..5, LOSS on; SCAN START; SCAN HALT (12, section 12.1; R149). -/
theorem test_scan_requests :
    answer (.scanSet 0 0 5 0 1) host = some (.ok, .scanSettings ⟨.once, 0, 5, false, true⟩)
      ∧ answer .scanStart host = some (.ok, .scanStarted .started .armed (some 0) 0)
      ∧ answer .scanHalt (inDwell .body) = some (.ok, .scanHalted .dwelling (some 4))
      ∧ (after .scanHalt (inDwell .body)).radio.rxon = false := by
  decide +kernel

/-- IDENTIFY 40, epoch 5, right after power-on: the IDENTITY hold is removed (12, section 12.1). -/
theorem test_identify :
    answer (.identify 40 5) host = some (.ok, .identified ⟨40, 5⟩ none true)
      ∧ (after (.identify 40 5) host).sched.holds = ⟨false, false, false⟩
      ∧ (answer (.identify 212 5) point).map (·.1) = some .state := by
  decide +kernel

/-- STATUS clears the supply-dip latch after reporting it; with five entries next-free is 5 (R171). -/
theorem test_status :
    let s := { point with part := { point.part with latch := true } }
    (match answer .status s with
      | some (.ok, .status r) => (r.latch, r.nextFree, r.freeEntries, r.freePages) == (true, some 5, 251, 160)
      | _ => false) = true ∧ (after .status s).part.latch = false := by
  decide +kernel

/-- RESTART WARM: the neighbours return to SEEKING, the maps are kept (R17, R119); COLD begins a start (R172). -/
theorem test_restart :
    let t := after .restartWarm inBurst
    (t.nbr 7).state = .seeking ∧ (t.nbr 7).sector = some 4 ∧ t.entry 2 = route .parked 224 (.forward 7)
      ∧ t.store.freePages = 160 ∧ (t.sched.maps.look 0).check = 55756
      ∧ (after .restartCold inBurst).part.starting = some .coldRequest
      ∧ answer (.restartRange 2) host = some (.range, .empty) := by
  decide +kernel

/-! ## Transactions -/

/-- A WRITE while not READY sets the error flag (09, section 9.9, transaction 3); a first byte clears an ERROR shown. -/
theorem test_write :
    let s : State := { host with link := { host.link with phase := .selected 0x40, reply := some ⟨some 0x1B, .ok, .empty⟩ } }
    (after .write s).link.error = true ∧ (after .write s).link.phase = .spent
      ∧ (after .write { host with link := { host.link with phase := .selected 0x88, error := true } }).link =
        { host.link with phase := .writing, error := false } := by
  decide +kernel

/-- SELECT falls: READY and NOTICE after power-on (09, section 9.9, transaction 1); an invalid kind sets the error flag. -/
theorem test_select_and_invalid_kind :
    (after .selectFall State.reset).link.phase = .selected 0xA0
      ∧ (after .invalidTransactionKind (after .selectFall State.reset)).link.error = true := by
  decide +kernel

/-- READ offers the START notice and its completion consumes it; cut, it stays and the error flag is set (R159 to R162). -/
theorem test_read :
    let s := after .read (after .selectFall State.reset)
    (after .readCompletion s).link.notices = [] ∧ (after .readEndedEarly s).link.error = true
      ∧ (after .readEndedEarly s).link.notices.length = 1 := by
  decide +kernel

/-- With nothing pending a READ offers EMPTY: F0 with an empty body (R175). -/
theorem test_read_empty :
    (match (after .read (after .selectFall { host with link := { host.link with phase := .none } })).link.phase with
      | .reading .empty record _ => record == [0xF0, 0, 0]
      | _ => false) = true := by
  decide +kernel

/-- A WRITE with an unknown kind: FORMAT, reason KIND (09, section 9.9, transaction 8). -/
theorem test_malformed :
    answer (.malformedRecord (some 0x40) (some 5) 5) host = some (.format, .format (some 5) .kind 5)
      ∧ answer (.malformedRecord (some 0x1B) (some 4) 4) host = some (.format, .format (some 4) .length 4)
      ∧ answer (.malformedRecord (some 0x1B) (some 3) 1) host = some (.format, .format (some 3) .short 1) := by
  decide +kernel

/-! ## Supply and starts -/

/-- SUPPLY-LOW during the burst: TXON released, context and queue as in the cut burst of 06, the notice names the burst. -/
theorem test_supply_cut :
    let t := after .supplyLowAssertion inBurst
    t.radio.tx = none ∧ t.radio.txon = false ∧ t.queue 7 = [12, 13, 14, 15, 16] ∧ t.sched.holds.supply = true
      ∧ t.link.notices.map (·.content) = [.supply .asserted true true (some .burst) 0] := by
  decide +kernel

/-- Released, the hold goes and the latch stays (R169). -/
theorem test_supply_released :
    let t := after .supplyLowDeassertion (after .supplyLowAssertion point)
    t.sched.holds.supply = false ∧ t.part.latch = true := by
  decide +kernel

/-- RESET begins a start with cause PIN, POWER_ON one with cause POWER; its completion leaves the START notice alone (R172, R174). -/
theorem test_starts :
    (after .reset inBurst).part.starting = some .pin ∧ (after .reset inBurst).radio = Radio.off
      ∧ (after .powerOn inBurst).part.starting = some .power
      ∧ (after .coldStartCompletion (after .reset inBurst)).link.notices.map (·.content) = [.start .pin none false false] := by
  decide +kernel

/-! ## Slots and the air -/

/-- The first TX slot of 06: handles 12, 13 and 14 are in flight at tier 2. -/
theorem test_slot_start_tx :
    (after .slotStart (at_ (.awaitStart 6) stocked)).radio.tx = some txCtx := by
  decide +kernel

/-- The second TX slot of 06: at margin 73 handles 13 and 15 fit, 16 does not; the RX slot of 7 listens. -/
theorem test_slot_start_second :
    let s := (stocked.setQueue 7 [13, 15, 16]).modNbr 7 fun r => { r with acc := some 1180 }
    ((after .slotStart (at_ (.awaitStart 6) s)).radio.tx.map (·.content)) = some (.frames [(13, 531), (15, 533)])
      ∧ (after .slotStart (at_ (.awaitStart 7) stocked)).radio.rxon = true := by
  decide +kernel

/-- Body start sends the burst, three frames on sector 4; a BEACON slot its beacon with offset 20 (R103, R113). -/
theorem test_body_start :
    let s := after .slotStart (at_ (.awaitStart 6) stocked)
    ((after .bodyStart s).radio.onAir.map fun a => (a.kind, a.sector, a.tier, a.frames.length)) = some (.burst, 4, 2, 3)
      ∧ (after .bodyStart (after .slotStart (at_ (.awaitStart 4) point))).radio.onAir
        = some { kind := .beacon, sector := 2, tier := 0, frames := [delimited (beaconBytes 40 5 4 20)] } := by
  decide +kernel

/-- BURST_END turns to LISTEN with RXON; BEACON_END releases TXON (R103, R112). -/
theorem test_burst_and_beacon_end :
    (after .burstEnd inBurst).radio.tx = some listening ∧ (after .burstEnd inBurst).radio.rxon = true
      ∧ (after .beaconEnd (after .bodyStart (after .slotStart (at_ (.awaitStart 4) point)))).radio.txon = false := by
  decide +kernel

/-- The first TX slot's end: {530, 532} acknowledged, 13 at retries 4, A = 1180 (06). -/
theorem test_tx_slot_end :
    let s := after (.acksetArrival (acksetBytes 118 40 [530, 532]) 190) inTxTail
    let t := after .slotEnd s
    t.queue 7 = [13, 15, 16] ∧ (t.frame 13).bind (·.retries) = some 4 ∧ t.frame 12 = none ∧ (t.nbr 7).acc = some 1180
      ∧ (t.nbr 7).counters = ⟨3, 2, 1, 0, 0, 0, 0⟩ := by
  decide +kernel

/-- A bad check, and an ACKSET of another node, in the tail (R104). -/
theorem test_ackset_arrival :
    (after (.acksetArrival [0x3C, 0x03, 0] 190) inTxTail).store.checkFail = 1
      ∧ (after (.acksetArrival (acksetBytes 212 40 [530]) 190) inTxTail).store.foreign = 1 := by
  decide +kernel

/-- Arrival 1 of the RX slot of 05: new, delivered, acknowledged, H = 101. -/
theorem test_rx_new_frame :
    let t := after (.rxFrameArrival (dataBytes (dataFrom7 101 40 5)) 230) (inRx .up .body)
    t.store.delivery = [0] ∧ (t.nbr 7).high = some 101 ∧ (t.nbr 7).seen = [90, 95, 99, 100, 101]
      ∧ t.radio.rx = some ⟨7, 4, some 230, true, [101]⟩ ∧ (t.nbr 7).counters.received = 1 := by
  decide +kernel

/-- Arrivals 3, 5 and 6: q 99 a duplicate, q 97 with hops 1 dropped HOPS, q 60 stale; and a bad check (05). -/
theorem test_rx_other_frames :
    let s := inRx .up .body
    ((after (.rxFrameArrival (dataBytes (dataFrom7 99 40 5)) 230) s).nbr 7).counters.duplicates = 1
      ∧ (after (.rxFrameArrival (dataBytes (dataFrom7 97 212 1)) 230) s).store.discards.hops = 1
      ∧ ((after (.rxFrameArrival (dataBytes (dataFrom7 60 40 5)) 230) s).nbr 7).counters.stale = 1
      ∧ (after (.rxFrameArrival [0, 0] 230) s).store.checkFail = 1 := by
  decide +kernel

/-- The tail of an RX slot sends the ACKSET that lists what was acknowledged; its end releases TXON (R91). -/
theorem test_tail_and_ackset_end :
    let s := inRx .up .body
    let s := { s with radio := { s.radio with rx := some ⟨7, 4, some 230, true, [101, 99, 102, 97, 60, 103]⟩ } }
    (after .tailStart s).radio.onAir
        = some { kind := .ackset, sector := 4, tier := 0, frames := [delimited (acksetBytes 40 118 [101, 99, 102, 97, 60, 103])] }
      ∧ (after .acksetEnd (after .tailStart s)).radio.txon = false
      ∧ ((after .slotEnd s).nbr 7).acc = some 1340 := by
  decide +kernel

/-- A dwell keeps the first quiet code and the beacons heard after the guard (R141). -/
theorem test_dwell :
    (match (after (.quietCode 150) (inDwell .guard)).scan.state with | .dwelling d => d.quiet == some 150 | _ => false) = true
      ∧ (match (after (.dwellFrameArrival (beaconBytes 118 41 10 20) 260 10090) (inDwell .body)).scan.state with
        | .dwelling d => d.beacons == [beacon118 260 10 10090]
        | _ => false) = true := by
  decide +kernel

/-- Superframe 40 of "pulling into step": d = +70, DRIFT present; the next slot 31 is corrected by +25 (07). -/
theorem test_alignment :
    let s := { point with sched := { point.sched with sync := some 7 } }
    (s.measure (beacon118 260 10 10090)).sched.lastD = some 70 ∧ (s.measure (beacon118 260 10 10090)).sched.holds.drift = true
      ∧ (s.measure (beacon118 260 31 50)).sched.lastD = some 1030 ∧ correctionOf (some 70) = 25 ∧ correctionOf (some 45) = 22 := by
  decide +kernel

/-- The dwell end of the ONCE scan of 08: on sector 4 to ARMED on 5 with the report posted. -/
theorem test_dwell_end :
    let s := inDwell .tail
    let t := after .slotEnd { s with scan := { s.scan with settings := ⟨.once, 4, 1, false, true⟩ } }
    t.scan.state = .armed 5 ∧ t.isPending .scanner = true ∧ t.sched.state = .running (.awaitStart 11) := by
  decide +kernel

/-- A boundary decides a staged switch, ages SEEKING, and steps a WAITING scanner (R125, R28; 08, STEP on the boundary). -/
theorem test_boundary :
    let s := at_ .awaitBoundary (pointIn .seeking .up)
    let s := { s with link := { s.link with phase := .none, staged := true }
                      scan := { s.scan with settings := ⟨.step, 2, 4, true, false⟩, state := .waiting 2 3 } }
    let t := after .superframeBoundary s
    t.link.reply = some ⟨some 0x14, .ok, .activeMapAt 1 1⟩ ∧ (t.nbr 2).age = 1 ∧ t.scan.state = .armed 3
      ∧ t.sched.state = .running (.awaitStart 0) := by
  decide +kernel

/-! ## Witnesses: states and operands that meet the hypotheses of each statement, clause by clause -/

/-- The command answers a next state. -/
def runs (c : Instr) (s : State) : Bool :=
  match exec c s with
  | .next _ => true
  | .fault _ => false
  | .refused _ => false

theorem next_of_runs {c : Instr} {s : State} (h : runs c s = true) : exec c s = .next (after c s) := by
  unfold runs at h
  unfold after
  split at h <;> simp_all

/-- The result code of the reply that waits after a command. -/
def code (c : Instr) (s : State) : Option ResultCode := (after c s).link.reply.map (·.code)

/-- A path table in which every entry is in use. -/
def fullTable : State := { point with path := { point.path with entries := Tab.all 256 (route .live 212 .deliver) } }

/-- Slot map 0 with a check word that does not satisfy it. -/
def badMap : State := { host with sched := { host.sched with maps := host.sched.maps.put 0 { workedMap with check := 0 } } }

/-- A state with a transaction at some phase. -/
def atPhase (p : Phase) (s : State) : State := { s with link := { s.link with phase := p } }

/-- A LINK notice for neighbour `n`. -/
def linkNotice (n : NbrIdx) : Notice := ⟨.link n, .link n (some 212) .up .recover (some 1) (some 9) (some 60), 1, none⟩

/-- The START notice of reset. -/
def startNotice : Notice := Notice.start .power none false false

/-- Two notices pending, the LINK one offered by a READ. -/
def offering : State :=
  { host with link := { host.link with phase := .reading (.notice (.link 2)) (linkNotice 2).record ⟨0, none⟩
                                       notices := [startNotice, linkNotice 2] } }

theorem witness_StepRunsTheFrontCommand : State.reset.pending = [] := rfl

/-- The three outcomes of a request that is taken (RESTART COLD by both its commands), and a request and a malformed record that
are lost. -/
theorem witness_OneReplyPerAcceptedRequest :
    (requestKind .status = some 0x1C ∧ host.accepting ∧ exec .status host = .next (after .status host))
      ∧ (requestKind .mapSwitch = some 0x14 ∧ inBurst.accepting ∧ exec .mapSwitch inBurst = .next (after .mapSwitch inBurst))
      ∧ (requestKind .restartCold = some 0x1D ∧ exec .restartCold host = .next (after .restartCold host))
      ∧ (requestKind (.restartRange 0) = some 0x1D ∧ exec (.restartRange 0) host = .next (after (.restartRange 0) host))
      ∧ requestKind .status ≠ none ∧ State.reset.link.phase ≠ .writing :=
  ⟨⟨rfl, rfl, next_of_runs (by decide +kernel)⟩, ⟨rfl, rfl, next_of_runs (by decide +kernel)⟩,
    ⟨rfl, next_of_runs (by decide +kernel)⟩, ⟨rfl, next_of_runs (by decide +kernel)⟩, by decide, by decide⟩

/-- Each of the five codes is met. -/
theorem witness_RefusedRequestsChangeNothing :
    (point.accepting ∧ point.link.reply = none ∧ exec (.tableClear 0) point = .next (after (.tableClear 0) point))
      ∧ code (.tableClear 0) point = some .range ∧ code (.neighbourConfirm 2) point = some .state
      ∧ code (.malformedRecord (some 0) none 0) point = some .format
      ∧ code (.entryPlace ⟨⟨1, 0, 16⟩, 1, 0, 1⟩) fullTable = some .full
      ∧ code .scheduleStart badMap = some .mapfault ∧ fullTable.accepting ∧ badMap.accepting :=
  ⟨⟨rfl, rfl, next_of_runs (by decide +kernel)⟩, by decide +kernel, by decide +kernel, by decide +kernel, by decide +kernel,
    by decide +kernel, rfl, rfl⟩

theorem witness_TransactionsBeginWithTheStatusByte :
    (after .reset host).part.starting ≠ none ∧ host.part.starting = none
      ∧ (atPhase (.selected 0xA0) host).link.phase = .selected 0xA0 ∧ ∀ b : Byte, host.link.phase ≠ .selected b :=
  ⟨by decide +kernel, rfl, rfl, fun _ h => nomatch h⟩

/-- A READ outside a first byte; an item of each rank. -/
theorem witness_ReadOffersByRank :
    (∀ b : Byte, host.link.phase ≠ .selected b) ∧
    let s := atPhase (.selected 0x40) stocked
    let r : Reply := ⟨some 0x1C, .ok, .empty⟩
    s.link.phase = .selected 0x40 ∧ ({ s with link := { s.link with reply := some r } } : State).link.reply = some r
      ∧ s.link.reply = none ∧ ({ s with link := { s.link with notices := [linkNotice 2] } } : State).link.notices = linkNotice 2 :: []
      ∧ s.link.notices = [] ∧ s.store.delivery = 2 :: [] ∧ (s.frame 2).isSome = true ∧ host.store.delivery = [] :=
  ⟨(fun _ h => nomatch h), by decide +kernel⟩

theorem witness_ReadsConsumeTheItemOrNothing :
    (∀ item record c, host.link.phase ≠ .reading item record c)
      ∧ (offering.link.phase = .reading (.notice (.link 2)) (linkNotice 2).record ⟨0, none⟩
        ∧ offering.link.notices = [startNotice] ++ linkNotice 2 :: [] ∧ (linkNotice 2).source = .link 2
        ∧ ∀ m ∈ [startNotice] ++ [], m.source ≠ .link 2)
      ∧ (atPhase (.reading (.frame 2) [] ⟨0, none⟩) stocked).link.phase = .reading (.frame 2) [] ⟨0, none⟩
      ∧ (atPhase (.reading (.frame 2) [] ⟨0, none⟩) stocked).store.delivery = 2 :: []
      ∧ (stocked.frame 2).isSome = true
      ∧ (atPhase (.reading .reply [] ⟨0, none⟩) host).link.phase = .reading .reply [] ⟨0, none⟩
      ∧ (atPhase (.reading .empty [] ⟨0, none⟩) host).link.phase = .reading .empty [] ⟨0, none⟩ :=
  ⟨fun _ _ _ h => (nomatch h), by decide +kernel, rfl, by decide +kernel, by decide +kernel, rfl, rfl⟩

/-- A posting of a source not pending and of one pending, a READ of the LINK notice with an empty carry and with one at its limit,
and a READ of the SCANNER notice. -/
theorem witness_PostingsAddOrUpdateInPlace :
    let content : NoticeContent := .link 2 (some 212) .weak .fade (some 1) (some 9) (some 20)
    (∀ n ∈ host.link.notices, n.source ≠ .link 2)
      ∧ (offering.link.notices = [startNotice] ++ linkNotice 2 :: [] ∧ ∀ m ∈ [startNotice] ++ [], m.source ≠ .link 2)
      ∧ ((offering.link.notices.map (·.source)).Nodup ∧ offering.isPending (.link 2) = true
        ∧ offering.link.phase = .reading (.notice (.link 2)) (linkNotice 2).record ⟨0, none⟩)
      ∧ (exec .readCompletion offering = .next (after .readCompletion offering)
        ∧ exec .readCompletion (offering.post (.link 2) content (some ⟨3, 1⟩))
          = .next (after .readCompletion (offering.post (.link 2) content (some ⟨3, 1⟩))))
      ∧ (let full := atPhase (.reading (.notice (.link 2)) [] ⟨255, some ⟨65535, 0⟩⟩) offering
        (full.link.notices.map (·.source)).Nodup ∧ full.isPending (.link 2) = true
          ∧ full.link.phase = .reading (.notice (.link 2)) [] ⟨255, some ⟨65535, 0⟩⟩ ∧ (255 : Nat) ≠ 0)
      ∧ (let scanned := atPhase (.reading (.notice .scanner) [] ⟨0, none⟩) (host.post .scanner content none)
        (scanned.link.notices.map (·.source)).Nodup ∧ scanned.isPending .scanner = true) :=
  ⟨by decide +kernel, by decide +kernel, by decide +kernel, ⟨next_of_runs (by decide +kernel), next_of_runs (by decide +kernel)⟩,
    by decide +kernel, by decide +kernel⟩

/-- The three reasons at the boundary values of kind, length and bytes taken, and a record without its kind. -/
theorem witness_MalformedRecordsAreAnsweredFormat :
    host.accepting ∧ ((0x00 : Byte).toNat = 0 ∧ 0x1D < (0x1E : Byte).toNat)
      ∧ (1 ≤ (0x1D : Byte).toNat ∧ (0x1D : Byte).toNat ≤ 0x1D ∧ ¬ (1445 : Half).toNat ≤ 1444 ∧ ¬ 5 ≤ (4 : Half).toNat
        ∧ (0x01, 18) ∉ [((0x01 : Nat), (19 : Nat))] ∧ (68 : Half).toNat % 2 ≠ 1 ∧ ¬ (71 : Half).toNat ≤ 69)
      ∧ (5 ≤ (1444 : Half).toNat ∧ (1444 : Half).toNat ≤ 1444 ∧ (1443 : Half).toNat < (1444 : Half).toNat)
      ∧ code (.malformedRecord none none 0) host = some .format := by
  decide +kernel

theorem witness_RecordsDecodeToTheirRequests :
    (Instr.entryWrite 1 ⟨⟨212, 0, 16⟩, 0, 7, 1⟩).wf = true
      ∧ encodeRecord (.entryWrite 1 ⟨⟨212, 0, 16⟩, 0, 7, 1⟩) = some [0x08, 0, 9, 0, 1, 0, 0xD4, 0, 16, 0, 7, 1] := by decide

/-- Settings at the ends of their ranges; crossed and equal thresholds; the write flag 0, 1 and 2. -/
theorem witness_LinkSettingsTakesAllOrNone :
    host.accepting
      ∧ (-128 ≤ (0xFF80 : Half).toInt ∧ (383 : Half).toInt ≤ 383 ∧ (0xFF80 : Half).toInt < (383 : Half).toInt
        ∧ (381 : Half).toInt < (382 : Half).toInt ∧ (382 : Half).toInt < (383 : Half).toInt)
      ∧ ¬ (40 : Half).toInt < (40 : Half).toInt ∧ ¬ -128 ≤ (0xFF7F : Half).toInt ∧ ¬ (384 : Half).toInt ≤ 383
      ∧ (2 : Byte) ≠ 0 ∧ (2 : Byte) ≠ 1 := by decide

/-- Each of the ten kinds of kept state is changed by its owner. -/
theorem witness_OnlyOwnersChangeKeptState :
    let c : CarriedSettings := ⟨3, 24, 40, 4, 6, 8, 48, 80, 112, 16, 4, 64, 12⟩
    let quiet : State := { inDwell .tail with scan := { (inDwell .tail).scan with state := .dwelling { dwell with quiet := some 99 } } }
    let staged := at_ .awaitBoundary { point with link := { point.link with phase := .none, staged := true } }
    ((after (.linkSettings 1 c) point).mon.settings ≠ point.mon.settings ∧ runs (.linkSettings 1 c) point = true)
      ∧ ((after .slotEnd quiet).mon.floors ≠ quiet.mon.floors ∧ runs .slotEnd quiet = true)
      ∧ ((after (.identify 41 1) point).part.identity ≠ point.part.identity ∧ runs (.identify 41 1) point = true)
      ∧ ((after (.mapWrite 1 0 0 0 [768]) point).sched.maps ≠ point.sched.maps ∧ runs (.mapWrite 1 0 0 0 [768]) point = true)
      ∧ ((after .mapSwitch point).sched.active ≠ point.sched.active ∧ runs .mapSwitch point = true)
      ∧ ((after .superframeBoundary staged).sched.active ≠ staged.sched.active ∧ runs .superframeBoundary staged = true)
      ∧ ((after (.slotLength 500) point).sched.slotLen ≠ point.sched.slotLen ∧ runs (.slotLength 500) point = true)
      ∧ ((after (.maskSet 1 31 0 0) point).path.maskB ≠ point.path.maskB ∧ runs (.maskSet 1 31 0 0) point = true)
      ∧ ((after (.maskSelect 1) point).path.active ≠ point.path.active ∧ runs (.maskSelect 1) point = true)
      ∧ ((after (.timingSet 7) point).sched.sync ≠ point.sched.sync ∧ runs (.timingSet 7) point = true)
      ∧ ((after (.scanSet 2 0 5 0 1) point).scan.settings ≠ point.scan.settings ∧ runs (.scanSet 2 0 5 0 1) point = true) := by
  decide +kernel

/-- Differences of 3 and −3 against 2^2, and the ends of the ranges of accumulator and sample. -/
theorem witness_SmoothingUpdate :
    (0 ≤ 16 * (40 : Int) - 637 ∧ 16 * (40 : Int) - 637 < 2 ^ 2) ∧ 16 * (40 : Int) - 643 < 0
      ∧ (-2048 ≤ (-2048 : Int) ∧ (6128 : Int) ≤ 6128 ∧ -128 ≤ (-128 : Int) ∧ (383 : Int) ≤ 383) := by decide

theorem witness_TiersAndAirtimes :
    (-2048 ≤ (6128 : Int) ∧ (6128 : Int) ≤ 6128) ∧ LinkSettings.default.t1 < LinkSettings.default.t2
      ∧ LinkSettings.default.t2 < LinkSettings.default.t3 ∧ 250 ≤ 250 := by decide

/-! ### States that obey the laws -/

/-- The path laws, as Lean decides them. -/
theorem pathLaw_of {s : State}
    (h : ∀ i, ∀ r ∈ s.entry i,
      (∀ n, r.action = .forward n →
        (s.nbr n).state ≠ .vacant ∧ (r.state = .live → (s.nbr n).state = .up) ∧ (r.state = .parked → (s.nbr n).state ≠ .up))
        ∧ (r.state = .parked → ∃ n, r.action = .forward n)) : PathLaw s :=
  fun i r e => h i r e

/-- The laws of the queues, as Lean decides them. -/
theorem storeLaw_of {s : State}
    (h1 : ∀ n, ∀ h ∈ s.queue n, ∃ f ∈ s.frame h,
      f.place = .queue n ∧ f.unrouted = none ∧ f.hops ≠ 0 ∧ f.seq ≠ none ∧ ∃ r ∈ f.retries, r ≤ 15)
    (h2 : ∀ h ∈ s.store.delivery, ∃ f ∈ s.frame h, f.place = .delivery ∧ f.unrouted ≠ none ∧ f.seq = none ∧ f.retries = none)
    (h3 : ∀ h, ∀ f ∈ s.frame h, (1 ≤ f.len ∧ f.len ≤ 1440 ∧ f.dest ≠ 0 ∧ f.dest ≠ 4095)
      ∧ (h ∈ s.store.delivery ∨ ∃ n, h ∈ s.queue n))
    (h4 : ∀ n, ((s.queue n).Nodup ∧ (s.queue n).length ≤ 32) ∧ ((s.nbr n).state.heard = false → s.queue n = []))
    (h5 : s.store.delivery.Nodup)
    (tx : ∀ ctx set, s.radio.tx = some ctx → ctx.content = .frames set →
        ∃ n, ctx.nbr = some n ∧ set.map (·.1) <+: s.queue n ∧ 1 ≤ set.length ∧ set.length ≤ 8
          ∧ ∀ hq ∈ set, ∃ f, s.frame hq.1 = some f ∧ f.seq = some hq.2) : StoreLaw s :=
  ⟨fun n h m => let ⟨f, e, a, b, c, d, r⟩ := h1 n h m; ⟨f, e, a, b, c, d, r⟩, h2, fun h f e => (h3 h f e).2,
    fun n => (h4 n).1, h5, fun n => (h4 n).2, fun h f e => (h3 h f e).1, tx⟩

/-- The in-flight set of a transmit context is the head of its neighbour's queue. -/
theorem inFlight_of {s : State} {c : TxCtx} {l : List (Handle × Seq)} {m : NbrIdx} (h : s.radio.tx = some c)
    (hc : c.content = .frames l) (hn : c.nbr = some m) (hp : l.map (·.1) <+: s.queue m) (h1 : 1 ≤ l.length) (h8 : l.length ≤ 8)
    (hf : l.all (fun hq => (s.frame hq.1).bind (·.seq) == some hq.2) = true) :
    ∀ ctx set, s.radio.tx = some ctx → ctx.content = .frames set →
      ∃ n, ctx.nbr = some n ∧ set.map (·.1) <+: s.queue n ∧ 1 ≤ set.length ∧ set.length ≤ 8
        ∧ ∀ hq ∈ set, ∃ f, s.frame hq.1 = some f ∧ f.seq = some hq.2 := by
  intro ctx set e1 e2
  rw [h] at e1
  cases e1
  rw [hc] at e2
  cases e2
  exact ⟨m, hn, hp, h1, h8, 
    fun hq i => Option.bind_eq_some_iff.mp (beq_iff_eq.mp (List.all_eq_true.mp hf hq i))⟩

/-- The counter law, as Lean decides it. -/
theorem counterLaw_of {s : State} (h1 : ∀ i, ∀ r ∈ s.entry i, r.hits ≤ 65535)
    (h2 : (∀ n, (s.nbr n).fade ≤ 255 ∧ (s.nbr n).good ≤ 255 ∧ (s.nbr n).miss ≤ 255 ∧ (s.nbr n).age ≤ 255
        ∧ (s.nbr n).counters.sent ≤ 65535 ∧ (s.nbr n).counters.acked ≤ 65535 ∧ (s.nbr n).counters.retries ≤ 65535
        ∧ (s.nbr n).counters.received ≤ 65535 ∧ (s.nbr n).counters.duplicates ≤ 65535
        ∧ (s.nbr n).counters.stale ≤ 65535 ∧ (s.nbr n).counters.refused ≤ 65535)
      ∧ (s.store.discards.retry ≤ 65535 ∧ s.store.discards.airtime ≤ 65535 ∧ s.store.discards.hops ≤ 65535
        ∧ s.store.discards.reflect ≤ 65535 ∧ s.store.discards.queue ≤ 65535 ∧ s.store.discards.noroute ≤ 65535
        ∧ s.store.discards.retired ≤ 65535 ∧ s.store.discards.action ≤ 65535)
      ∧ s.store.checkFail ≤ 65535 ∧ s.store.foreign ≤ 65535 ∧ s.scan.ignored ≤ 65535) : CounterLaw s :=
  ⟨fun i r e => h1 i r e, h2⟩

theorem point_path : PathLaw point := pathLaw_of (by decide +kernel)

theorem bareWeak_path : PathLaw (node40.setNbr 7 (nbrOn .weak 118 4 41 1360)) := pathLaw_of (by decide +kernel)

theorem stocked_store : StoreLaw stocked :=
  storeLaw_of (by decide +kernel) (by decide +kernel) (by decide +kernel) (by decide +kernel) (by decide +kernel)
    (fun _ _ h => nomatch h)

theorem stocked_counters : CounterLaw stocked := counterLaw_of (by decide +kernel) (by decide +kernel)

theorem stocked_pages : PageLaw stocked :=
  ⟨by decide +kernel, fun h f e => (by decide +kernel : ∀ h, ∀ f ∈ stocked.frame h, f.pages.length = pagesFor f.len) h f e⟩

theorem inBurst_store : StoreLaw inBurst :=
  storeLaw_of (by decide +kernel) (by decide +kernel) (by decide +kernel) (by decide +kernel) (by decide +kernel)
    (inFlight_of (c := txCtx) (l := [(12, 530), (13, 531), (14, 532)]) (m := 7) (by decide +kernel) rfl rfl (by decide +kernel)
      (by decide) (by decide) (by decide +kernel))

/-! ### Link monitor and path table -/

/-- The runs one below their limits: an observation that ends in LOST, WEAK and UP, and one that ends in no transition. -/
theorem witness_ObservationsMoveTheLinkState :
    PathLaw point ∧ PathLaw (node40.setNbr 7 (nbrOn .weak 118 4 41 1360))
      ∧ (point.nbr 0).state.heard = false ∧ (point.nbr 2).state.heard = true
      ∧ point.mon.settings.missLimit ≤ min 255 (7 + 1) ∧ 1 < point.mon.settings.missLimit
      ∧ point.mon.settings.wF ≤ min 255 (3 + 1) ∧ point.mon.settings.wR ≤ min 255 (5 + 1) :=
  ⟨point_path, bareWeak_path, by decide +kernel⟩

/-- A loss and a fade from UP post their causes, and the loss carries the counts of a rescue (R34, R35). -/
theorem test_observations_post_their_cause :
    let last := fun (r : Nbr → Nbr) => ((stocked.modNbr 7 r).observe 7 none).link.notices.map fun n => (n.content, n.rescue)
    last (fun r => { r with miss := 7 })
        = [(.link 7 (some 118) .lost .miss (some 4) (some 41) (some 85), some ⟨0, 5⟩)]
      ∧ last (fun r => { r with fade := 3 }) = [(.link 7 (some 118) .weak .fade (some 4) (some 41) (some 85), none)] := by
  decide +kernel

/-- A change out of UP, one into UP, and one into LOST with and without LOSS among the trigger sources. -/
theorem witness_ParkingFollowsTheLinkState :
    LinkState.weak ≠ .lost ∧ LinkState.lost = .lost ∧ (point.nbr 7).state = .up ∧ ((pointIn .up .weak).nbr 7).state ≠ .up
      ∧ point.scan.settings.loss = false ∧ (after (.scanSet 2 0 5 0 1) point).scan.settings.loss = true := by
  decide +kernel

/-- The first and the last legal value of each field, and the values next to them. -/
theorem witness_EnrolInitialisesTheRecord :
    node40.accepting ∧ 16 ≤ (16 : Byte).toNat ∧ (0 : Half).toNat = 0 ∧ 4094 < (4095 : Half).toNat
      ∧ ((6 : Byte) ≠ 0xFF ∧ 6 ≤ (6 : Byte).toNat) ∧ (1 ≤ (4094 : Half).toNat ∧ (4094 : Half).toNat ≤ 4094)
      ∧ (∃ i, node40.part.identity = some i ∧ i.nodeId ≠ (4094 : Half).toNat) ∧ (node40.nbr 15).state = .vacant
      ∧ (∀ m, (node40.nbr m).state ≠ .vacant → (node40.nbr m).nodeId ≠ some 4094) ∧ (point.nbr 2).state ≠ .vacant :=
  ⟨rfl, by decide, by decide, by decide, by decide, by decide, ⟨⟨40, 5⟩, rfl, by decide⟩, by decide +kernel, by decide +kernel,
    by decide +kernel⟩

/-- A retire of the sync neighbour while DRIFT is present, during its own burst, and one in LISTEN. -/
theorem witness_RetireRemovesTheNeighbour :
    let s : State := { inBurst with sched := { inBurst.sched with sync := some 7, holds := ⟨false, false, true⟩ } }
    s.accepting ∧ 16 ≤ (16 : Byte).toNat ∧ (s.nbr 15).state = .vacant ∧ (s.nbr 7).state ≠ .vacant
      ∧ s.store.discards.retired ≤ 65535 ∧ s.sched.sync = some 7
      ∧ (s.radio.tx = some txCtx ∧ txCtx.nbr = some 7 ∧ txCtx.phase = .burst) ∧ inBurst.sched.sync ≠ some 7
      ∧ (inTxTail.radio.tx = some listening ∧ listening.nbr = some 7 ∧ listening.phase = .listen) := by
  decide +kernel

/-- A retire in LISTEN leaves RXON and the sector as they were (R109). -/
theorem test_retire_in_listen :
    (after (.neighbourRetire 7) inTxTail).radio
      = { inTxTail.radio with tx := some { listening with nbr := none, content := .nothing, ackset := none } } := by
  decide +kernel

theorem witness_ConfirmAndQueryNeighbours :
    point.accepting ∧ (pointIn .up .held).accepting ∧ 16 ≤ (16 : Byte).toNat ∧ 2 ≤ (2 : Byte).toNat
      ∧ (point.nbr 15).state ≠ .held ∧ ((pointIn .up .held).nbr 7).state = .held := by
  decide +kernel

/-- A block of 16 under the last four positions: the entry 208 and the frames 208 and 223 (R42). -/
theorem witness_KeysMatchUnderAProfile :
    let p : Mask := ⟨15, false, false⟩
    let k : Key := ⟨208, 0, .host⟩
    p.ignore = 15 ∧ k.dest = 208 ∧ p.cmpClass = false ∧ p.cmpIngress = false ∧ (⟨4095, false, false⟩ : Mask).ignore = 4095
      ∧ p.matches k ⟨223, 7, .nbr 3⟩ = true ∧ p.matches k ⟨224, 0, .host⟩ = false := by
  decide

theorem witness_FrameLookupTakesTheLowestLiveMatch :
    let q : Key := ⟨212, 0, .nbr 7⟩
    (∃ r, point.entry 0 = some r ∧ r.state = .live ∧ point.path.maskA.matches r.key q = true)
      ∧ ∀ i, ∀ r ∈ point.entry i, ¬ (r.state = .live ∧ point.path.maskA.matches r.key ⟨230, 0, .host⟩ = true) :=
  ⟨⟨_, rfl, by decide⟩, by decide +kernel⟩

/-- Keys at the ends of their ranges, a search with two candidates, one with none, and the conditions beyond the ranges. -/
theorem witness_SearchesFindTheLowestCandidate :
    point.accepting ∧ ((4095 : Half).toNat ≤ 4095 ∧ (7 : Byte).toNat ≤ 7 ∧ (16 : Byte).toNat ≤ 16)
      ∧ ¬ (4096 : Half).toNat ≤ 4095 ∧ ¬ (8 : Byte).toNat ≤ 7 ∧ ¬ (17 : Byte).toNat ≤ 16
      ∧ (∃ r ∈ point.entry 0, r.state = .live) ∧ (∃ r ∈ point.entry 1, r.state = .live)
      ∧ (∀ i, ∀ r ∈ point.entry i, r.state ≠ .parked) ∧ (point.entry 5 = none ∧ ∀ j, j < 5 → point.entry j ≠ none)
      ∧ 3 < (4 : Byte).toNat ∧ 1 < (2 : Byte).toNat ∧ ((1 : Byte) = 0 ∨ (1 : Byte) = 1) := by
  decide +kernel

/-- Each field one beyond its range; FORWARD to an UP, a SEEKING and a VACANT neighbour; a table with and without a FREE entry. -/
theorem witness_WritesStoreTheResolvedEntry :
    point.accepting ∧ (4095 < (4096 : Half).toNat ∧ 7 < (8 : Byte).toNat ∧ 16 < (17 : Byte).toNat ∧ 2 < (3 : Byte).toNat
        ∧ 15 < (16 : Byte).toNat ∧ ((2 : Byte) ≠ 1 ∧ (2 : Byte) ≠ 3) ∧ 255 < (256 : Half).toNat)
      ∧ (∀ n : NbrIdx, Action.forward 15 = .forward n → (15 : Byte) = BitVec.ofNat 8 n.val)
      ∧ (point.nbr 2).state = .up ∧ (point.nbr 15).state = .vacant ∧ ((pointIn .seeking .up).nbr 2).state ≠ .up
      ∧ (fullTable.accepting ∧ ∀ i, fullTable.entry i ≠ none) ∧ (point.entry 5 = none ∧ ∀ j, j < 5 → point.entry j ≠ none) := by
  decide +kernel

theorem witness_EntryReadReportsTheEntry :
    point.accepting ∧ 255 < (256 : Half).toNat ∧ (∀ n : NbrIdx, Action.forward 7 = .forward n → (7 : Byte) = BitVec.ofNat 8 n.val)
      ∧ ∀ n : NbrIdx, Action.discard ≠ .forward n := by
  decide

/-- A target beside its range, LAST with and without an index, and an entry in each state. -/
theorem witness_EntryStateFollowsItsTable :
    let last : State := { point with path := { point.path with lastMatch := some 0 } }
    point.accepting ∧ (255 < (256 : Half).toNat ∧ (256 : Half) ≠ 0xFFFE) ∧ point.path.lastMatch = none
      ∧ ((2 : Byte) ≠ 0 ∧ (2 : Byte) ≠ 1 ∧ (2 : Byte) ≠ 3) ∧ ((0xFFFE : Half) = 0xFFFE ∧ last.path.lastMatch = some 0)
      ∧ (255 : Half) = BitVec.ofNat 16 (255 : EntryIdx).val ∧ point.entry 255 = none
      ∧ (∃ r ∈ point.entry 0, r.state = .live) ∧ (∃ r ∈ (point.park 2).entry 0, r.state = .parked)
      ∧ (∃ r ∈ point.entry 3, r.state = .barred ∧ r.action = .forward 2)
      ∧ (point.nbr 2).state = .up ∧ ((pointIn .weak .up).nbr 2).state ≠ .up := by
  decide +kernel

theorem witness_TableClearAndMaskRequests :
    point.accepting ∧ (0 : Byte).toNat = 0 ∧ 4 < (5 : Byte).toNat ∧ 1 < (2 : Byte).toNat ∧ 4095 < (4096 : Half).toNat := by decide

/-- Records as R175 spells them: an OK reply of IDENTIFY, a LINK notice and a FRAME record. -/
theorem test_outbound_records :
    (⟨some 0x1B, .ok, .identified ⟨40, 5⟩ none true⟩ : Reply).record
        = [0x80, 0, 10, 0x1B, 0, 0, 40, 5, 0xFF, 0xFF, 0xFF, 0xFF, 1]
      ∧ (⟨.link 7, .link 7 (some 118) .weak .fade (some 4) none (some (-3)), 2, none⟩ : Notice).record
        = [0xC1, 0, 15, 7, 0, 118, 2, 3, 2, 4, 0xFF, 0xFF, 0xFF, 0xFD, 0xFF, 0xFF, 0xFF, 0xFF]
      ∧ ((stocked.frame 2).map fun f => (frameRecord f [1, 2]).take 13)
        = some [0xE0, 0, 10, 7, 0, 40, 0, 5, 1, 44, 0, 1, 2] := by
  decide +kernel

/-- ATTN with a notice, and without anything that waits (R163). -/
theorem witness_OutboundRecordsAndAttn :
    (State.reset.attn = true ∧ State.reset.part.starting = none ∧ State.reset.link.notices ≠ [])
      ∧ host.attn = false ∧ (after .reset State.reset).attn = false := by
  decide +kernel

/-! ### Frame store, receive path, slots -/

/-- The point with a DISCARD entry for 600 and a DELIVER entry for 700. -/
def routes : State := (point.setEntry 5 (route .live 600 .discard)).setEntry 6 (route .live 700 .deliver)

/-- The action of the winner of a lookup for a destination, by a frame from `g`. -/
def wins (s : State) (dest : BitVec 12) (g : Ingress) : Option Action := (s.frameLookup ⟨dest, 0, g⟩).1.map (·.2.action)

/-- Queue 2 at the default queue limit of 12. -/
def fullQueue : State := point.setQueue 2 ((List.finRange 64).take 12)

/-- Every frame record in use. -/
def fullStore : State := { point with store := { point.store with frames := Tab.all 64 (queuedFrame 7 1 1 0 [0]) } }

theorem routes_pages : PageLaw routes :=
  ⟨by decide +kernel, fun h f e => (by decide +kernel : ∀ h, ∀ f ∈ routes.frame h, f.pages.length = pagesFor f.len) h f e⟩

/-- The two laws under which payloads read back. -/
theorem routes_memory : MemoryLaw routes ∧ PageLaw routes := ⟨by unfold MemoryLaw; decide +kernel, routes_pages⟩

/-- Neighbour 7 with one frame queued, by its destination and ingress. -/
def losing (s : State) (dest : BitVec 12) (g : Ingress) : State :=
  (s.setQueue 7 [12]).setFrame 12 ((queuedFrame 7 530 96 2 [0]).map fun f => { f with dest := dest, ing := g })

/-- That neighbour when the frames before it are rescued: none. -/
def rescued (s : State) (dest : BitVec 12) (g : Ingress) : State := (((losing s dest g).setQueue 7 []).rescue 7).1

/-- Each row of the table of R96 at the last frame of a queue; and neighbour 7 with five frames queued and its entries PARKED. -/
theorem witness_RescueAccountsForEveryFrame :
    (routes.queue 7 = []
      ∧ ((losing routes 500 .host).queue 7 = [] ++ [12] ∧ ((rescued routes 500 .host).frame 12).isSome = true)
      ∧ wins (rescued routes 500 .host) 500 .host = none
      ∧ wins (rescued routes 600 .host) 600 .host = some .discard
      ∧ wins (rescued routes 700 .host) 700 .host = some .deliver
      ∧ wins (rescued routes 212 (.nbr 2)) 212 (.nbr 2) = some (.forward 2)
      ∧ (wins (rescued routes 212 .host) 212 .host = some (.forward 2)
        ∧ ((rescued routes 212 .host).queue 2).length < routes.mon.settings.queueLimit)
      ∧ (wins (rescued fullQueue 212 .host) 212 .host = some (.forward 2)
        ∧ fullQueue.mon.settings.queueLimit ≤ ((rescued fullQueue 212 .host).queue 2).length)
      ∧ ∀ i, ∀ r ∈ (stocked.park 7).entry i, r.state = .live → r.action ≠ .forward 7)
      ∧ StoreLaw (stocked.park 7) :=
  ⟨by decide +kernel, stocked_store⟩

/-- A frame of the lost neighbour moved to neighbour 2 takes its next sequence; one at the queue limit is dropped QUEUE (R96). -/
theorem test_rescue :
    let t := ((losing routes 212 .host).rescue 7).1
    (t.queue 2 = [12] ∧ ((t.frame 12).map fun f => (f.seq, f.retries, f.pages)) = some (some 0, some 0, [0])
        ∧ (t.nbr 2).txSeq = 1 ∧ ((losing routes 212 .host).rescue 7).2 = ⟨1, 0⟩)
      ∧ ((losing fullQueue 212 .host).rescue 7).2 = ⟨0, 1⟩
      ∧ ((losing fullQueue 212 .host).rescue 7).1.store.discards.queue = 1 := by
  decide +kernel

/-- Each row of the table of R75, with payloads of 1 and of 1440 bytes, under the laws of the page memory. -/
theorem witness_FrameSendFollowsItsTable :
    ((routes.accepting ∧ 1 ≤ (List.replicate 1440 (0 : Byte)).length ∧ (List.replicate 1440 (0 : Byte)).length ≤ 1440)
      ∧ (¬ 1 ≤ (0 : Half).toNat ∧ ¬ (4095 : Half).toNat ≤ 4094 ∧ ¬ (8 : Byte).toNat ≤ 7) ∧ host.part.identity = none
      ∧ (routes.part.identity = some ⟨40, 5⟩ ∧ (40 : Half).toNat = 40) ∧ wins routes 500 .host = none
      ∧ wins routes 600 .host = some .discard ∧ wins routes 700 .host = some .deliver
      ∧ wins routes 212 .host = some (.forward 2)
      ∧ (wins fullQueue 212 .host = some (.forward 2) ∧ fullQueue.mon.settings.queueLimit ≤ (fullQueue.queue 2).length)
      ∧ (∀ h, fullStore.frame h ≠ none) ∧ (routes.queue 2).length < routes.mon.settings.queueLimit
      ∧ (1440 + 95) / 96 ≤ routes.store.freePages ∧ (routes.frame 0 = none ∧ ∀ j, j < 0 → routes.frame j ≠ none)
      ∧ (stocked.frame 2).isSome = true ∧ (2 : Handle) ≠ 0)
      ∧ MemoryLaw routes ∧ PageLaw routes :=
  ⟨by decide +kernel, routes_memory⟩

theorem witness_StoredPayloadsReadBack :
    MemoryLaw stocked ∧ PageLaw stocked ∧ stocked.frame 0 = none ∧ (1440 + 95) / 96 ≤ stocked.store.freePages :=
  ⟨by unfold MemoryLaw; decide +kernel, stocked_pages, by decide +kernel⟩

theorem witness_CountersReportsAndClears : point.accepting ∧ 1 < (2 : Byte).toNat := by decide

/-- The sequences at b = 0, 31, 32, 2048, 2049 and 4095 behind H = 100, seen and not seen. -/
theorem witness_WindowClasses :
    let r : Nbr := { Nbr.vacant with high := some 100, seen := [69, 100] }
    Nbr.vacant.high = none ∧ r.high = some 100 ∧ (4096 + 100 - 69) % 4096 = 31 ∧ (69 : Seq) ∈ r.seen ∧ (70 : Seq) ∉ r.seen
      ∧ (4096 + 100 - 68) % 4096 = 32 ∧ (4096 + 100 - 2148) % 4096 = 2048 ∧ (4096 + 100 - 2147) % 4096 = 2049
      ∧ (4096 + 100 - 101) % 4096 = 4095 ∧ (100 : Seq) ∈ r.seen ∧ r.classify 70 = .fresh ∧ r.classify 101 = .fresh := by
  decide

/-- An RX slot in its guard and its body, and a frame for each clause: failed, foreign, HOLD, refused, duplicate, stale, without
storage, and one from a neighbour that is SEEKING again. -/
theorem witness_ReceivedFramesAreJudgedInOrder :
    let s := inRx .up .body
    let full : State := { s with store := { s.store with frames := fullStore.store.frames } }
    s.radio.rx = some ⟨7, 4, none, false, []⟩ ∧ (∃ o ∈ s.sched.openSlot, o.part = .body)
      ∧ (∃ o ∈ (inRx .up .guard).sched.openSlot, o.part ≠ .body)
      ∧ parseFrame [0x3C, 0x01] = none ∧ parseFrame (beaconBytes 118 41 0 20) = some (.beacon 118 41 0 20)
      ∧ parseFrame (holdBytes 118 40) = some (.hold 118 40) ∧ parseFrame (holdBytes 118 41) = some (.hold 118 41)
      ∧ parseFrame (dataBytes (dataFrom7 99 40 5)) = some (.data (dataFrom7 99 40 5))
      ∧ s.part.identity = some ⟨40, 5⟩ ∧ (s.nbr 7).nodeId = some 118 ∧ ((inRx .held .body).nbr 7).state = .held
      ∧ ((inRx .seeking .body).nbr 7).state.heard = false
      ∧ (s.nbr 7).classify 99 = .duplicate ∧ (s.nbr 7).classify 60 = .stale ∧ (s.nbr 7).classify 101 = .fresh
      ∧ ∀ h, full.frame h ≠ none := by
  decide +kernel

/-- A new frame from neighbour 7 with room for it, and each row of the table of R87 and R88. -/
theorem witness_AcceptedFramesFollowTheTable :
    let s := { inRx .up .body with path := routes.path }
    ((s.radio.rx = some ⟨7, 4, none, false, []⟩ ∧ (∃ o ∈ s.sched.openSlot, o.part = .body)
        ∧ parseFrame (dataBytes (dataFrom7 101 40 1)) = some (.data (dataFrom7 101 40 1))
        ∧ s.part.identity = some ⟨40, 5⟩ ∧ (dataFrom7 101 40 1).rx.toNat = 40
        ∧ (s.nbr 7).nodeId = some (dataFrom7 101 40 1).tx.toNat ∧ (s.nbr 7).state = .up ∧ (s.nbr 7).classify 101 = .fresh
        ∧ (3 + 95) / 96 ≤ s.store.freePages ∧ (s.frame 0 = none ∧ ∀ j, j < 0 → s.frame j ≠ none))
      ∧ (40 = (dataFrom7 101 40 1).dest.toNat ∧ 40 ≠ (dataFrom7 101 212 1).dest.toNat)
      ∧ wins s 500 (.nbr 7) = none ∧ wins s 600 (.nbr 7) = some .discard ∧ wins s 700 (.nbr 7) = some .deliver
      ∧ wins s 224 (.nbr 7) = some (.forward 7) ∧ wins s 212 (.nbr 7) = some (.forward 2)
      ∧ ((dataFrom7 101 212 1).hops.toNat ≤ 1 ∧ 1 < (dataFrom7 101 212 2).hops.toNat)
      ∧ ((s.queue 2).length < s.mon.settings.queueLimit ∧ fullQueue.mon.settings.queueLimit ≤ (fullQueue.queue 2).length))
      ∧ MemoryLaw s ∧ PageLaw s :=
  ⟨by decide +kernel, routes_memory⟩

/-- One state before the start of a slot of each kind, with and without what its owner needs. -/
theorem witness_SlotStartOpensItsOwner :
    let s := at_ (.awaitStart 6) point
    let code := fun i : SlotIdx => ((s.sched.maps.look s.sched.active).codes.look i).toNat
    (∀ i, point.sched.state ≠ .running (.awaitStart i)) ∧ s.sched.state = .running (.awaitStart 6)
      ∧ (code 15 = 0 ∧ code 7 = 512 + 7 ∧ code 6 = 256 + 7 ∧ code 0 = 768 + 0 ∧ code 9 = 768 + 5 ∧ code 31 = 1024)
      ∧ ((s.nbr 7).state.heard = true ∧ (s.nbr 7).sector = some 4) ∧ ((pointIn .up .seeking).nbr 7).state.heard = false
      ∧ (((pointIn .up .held).nbr 7).state = .held ∧ ((pointIn .up .held).nbr 7).sector = some 4)
      ∧ (s.sched.holds.identity = false ∧ s.sched.holds.supply = false ∧ s.sched.holds.drift = false)
      ∧ host.sched.holds.identity = true ∧ s.part.identity ≠ none ∧ host.part.identity = none
      ∧ (∀ sec, s.scan.state ≠ .armed sec) ∧ (after .scanStart s).scan.state = .armed 0
      ∧ (after .scanStart s).isPending .scanner = false
      ∧ ((after .scanStart s).post .scanner (.start .power none false false) none).isPending .scanner = true := by
  decide +kernel

theorem witness_TxSelectionTakesTheLongestFittingRun :
    let s := at_ (.awaitStart 6) stocked
    StoreLaw s ∧ s.store.discards.airtime ≤ 65535 ∧ s.sched.state = .running (.awaitStart 6)
      ∧ ((s.sched.maps.look s.sched.active).codes.look 6).toNat = 256 + 7 ∧ (s.nbr 7).state = .up ∧ (s.nbr 7).sector = some 4
      ∧ s.sched.holds = ⟨false, false, false⟩ :=
  ⟨stocked_store, by decide +kernel⟩

/-- The BEACON slot 4 before its body, with its beacon to send. -/
def beaconSlot : State := { at_ (slot 4 (.beacon 2) .guard) point with radio := { Radio.off with beacon := some 2 } }

/-- A TX slot in its guard, with a burst, a HOLD frame, and a retired neighbour to send to. -/
def txGuard (c : TxCtx) : State := { at_ (slot 6 (.tx 7) .guard) stocked with radio := { Radio.off with tx := some c } }

/-- Something on the air. -/
def sending (k : AirKind) : State :=
  { at_ (slot 4 (.beacon 2) .body) point with radio := { Radio.off with txon := true, onAir := some ⟨k, 2, 0, []⟩ } }

theorem witness_TransmissionsStartAndEnd :
    (∀ o, (sending .beacon).sched.openSlot = some o → o.part ≠ .guard)
      ∧ ((∃ o ∈ beaconSlot.sched.openSlot, o.part = .guard) ∧ beaconSlot.radio.tx = none ∧ beaconSlot.radio.beacon = some 2
        ∧ beaconSlot.part.identity = some ⟨40, 5⟩)
      ∧ ((txGuard txCtx).radio.tx = some txCtx ∧ (txGuard { txCtx with nbr := none }).radio.tx = some { txCtx with nbr := none }
        ∧ (txGuard { txCtx with content := .hold }).radio.tx = some { txCtx with content := .hold }
        ∧ ((txGuard txCtx).nbr 7).nodeId = some 118
        ∧ [(12, (530 : Seq)), (13, 531), (14, 532)].all (fun p => ((txGuard txCtx).frame p.1).isSome) = true)
      ∧ (inBurst.radio.tx = some txCtx ∧ (∃ a ∈ inBurst.radio.onAir, a.kind = .burst) ∧ point.radio.tx = none)
      ∧ ((Instr.beaconEnd, AirKind.beacon) ∈ [(Instr.beaconEnd, AirKind.beacon), (.acksetEnd, .ackset)]
        ∧ (sending .beacon).radio.onAir = some ⟨.beacon, 2, 0, []⟩ ∧ (sending .ackset).radio.onAir = some ⟨.ackset, 2, 0, []⟩
        ∧ AirKind.ackset ≠ .beacon)
      ∧ ((∃ o ∈ inTxTail.sched.openSlot, o.part = .tail) ∧ ∃ o ∈ (inRx .up .body).sched.openSlot, o.part ≠ .tail)
      ∧ ((⟨7, 4, some 230, true, [101]⟩ : RxCtx).heard = true ∧ ((inRx .up .body).nbr 7).state ≠ .vacant
        ∧ (inRx .up .body).sched.holds = ⟨false, false, false⟩ ∧ (⟨7, 4, none, false, []⟩ : RxCtx).heard ≠ true) :=
  ⟨fun o h => (by decide +kernel : ∀ o ∈ (sending .beacon).sched.openSlot, o.part ≠ .guard) o h, by decide +kernel,
    by decide +kernel, by decide +kernel, by decide +kernel, by decide +kernel, by decide +kernel⟩

/-- The tail of a TX slot with and without an ACKSET taken, and after a retire; a dwell in its guard and in its body. -/
theorem witness_TailsAndDwellsTakeTheirFrames :
    (inTxTail.radio.tx = some listening ∧ (∃ o ∈ inTxTail.sched.openSlot, o.part = .tail) ∧ listening.phase = .listen
        ∧ listening.nbr = some 7 ∧ listening.ackset = none ∧ ({ listening with ackset := some (190, []) } : TxCtx).ackset ≠ none)
      ∧ (parseFrame [] = none ∧ parseFrame (acksetBytes 118 40 [530, 532]) = some (.ackset 118 40 [530, 532])
        ∧ parseFrame (holdBytes 118 40) = some (.hold 118 40) ∧ (inTxTail.nbr 7).nodeId = some 118
        ∧ inTxTail.part.identity = some ⟨40, 5⟩) ∧ inBurst.radio.tx = some txCtx ∧ txCtx.phase ≠ .listen
      ∧ ((∀ d, point.scan.state ≠ .dwelling d) ∧ (inDwell .body).scan.state = .dwelling dwell
        ∧ (∃ o ∈ (inDwell .body).sched.openSlot, o.part ≠ .guard) ∧ (∃ o ∈ (inDwell .guard).sched.openSlot, o.part = .guard)
        ∧ parseFrame (beaconBytes 118 41 10 20) = some (.beacon 118 41 10 20)) :=
  ⟨by decide +kernel, by decide +kernel, by decide +kernel, by decide, (fun _ h => nomatch h), by decide +kernel⟩

/-- An open slot of each kind, with and without its context, and none open. -/
theorem witness_SlotEndsRunTheirOwnersWork :
    point.sched.openSlot = none
      ∧ ((∃ o ∈ (at_ (slot 15 .idle .tail) point).sched.openSlot, o.kind = .idle)
        ∧ (∃ o ∈ beaconSlot.sched.openSlot, o.kind = .beacon 2)
        ∧ (∃ o ∈ (inRx .up .tail).sched.openSlot, o.kind = .rx 7) ∧ (inRx .up .tail).radio.rx = some ⟨7, 4, none, false, []⟩
        ∧ (∃ o ∈ inTxTail.sched.openSlot, o.kind = .tx 7) ∧ inTxTail.radio.tx = some listening ∧ listening.nbr = some 7
        ∧ (∃ o ∈ (inDwell .tail).sched.openSlot, o.kind = .scan) ∧ (inDwell .tail).scan.state = .dwelling dwell)
      ∧ (txGuard { txCtx with nbr := none }).radio.tx = some { txCtx with nbr := none }
      ∧ (txGuard { txCtx with content := .hold }).radio.tx = some { txCtx with content := .hold } := by
  decide +kernel

/-- The in-flight set of the first TX slot of 06, at the head of its queue. -/
theorem witness_SettlingAcknowledgesOrRetries :
    StoreLaw stocked ∧ CounterLaw stocked
      ∧ stocked.queue 7 = [(12, (530 : Seq)), (13, 531), (14, 532)].map (·.1) ++ [15, 16] :=
  ⟨stocked_store, stocked_counters, by decide +kernel⟩

/-- A boundary awaited, one still to be taken in slot 31, and none; a staged switch; ages at 254 and at the limit. -/
theorem witness_BoundariesCountDecideAndAge :
    let s := at_ .awaitBoundary (pointIn .seeking .up)
    s.sched.state = .running .awaitBoundary ∧ (∀ n, (s.nbr n).state = .seeking → s.queue n = [])
      ∧ (at_ (slot 31 .scan .tail) point).sched.state = .running (slot 31 .scan .tail)
      ∧ (point.sched.state ≠ .running .awaitBoundary ∧ ∀ o, point.sched.state ≠ .running (.opened o))
      ∧ (s.sched.maps.look 1).sum = 65535 ∧ (badMap.sched.maps.look 0).sum ≠ 65535
      ∧ ((s.nbr 2).state = .seeking ∧ (s.nbr 7).state ≠ .seeking ∧ ¬ s.mon.settings.acqLimit ≤ min 255 (62 + 1)
        ∧ s.mon.settings.acqLimit ≤ min 255 (63 + 1)) := by
  refine ⟨?_, ?_, ?_, ⟨?_, ?_⟩, ?_⟩
  · decide +kernel
  · decide +kernel
  · decide +kernel
  · decide +kernel
  · exact fun _ h => nomatch h
  · decide +kernel

/-! ### Scheduler, scanner, identity, supply, starts, air frames -/

theorem witness_TimingFollowsTheSyncNeighbour :
    let s := { point with sched := { point.sched with sync := some 7 } }
    point.accepting ∧ (16 ≤ (16 : Byte).toNat ∧ (16 : Byte) ≠ 0xFF) ∧ (point.nbr 15).state = .vacant
      ∧ (point.nbr 7).state ≠ .vacant ∧ point.sched.sync = none ∧ s.sched.sync = some 7
      ∧ (s.nbr 7).nodeId = some (beacon118 260 10 10090).nodeId ∧ 0 < s.sched.slotLen := by
  decide +kernel

/-- Slot lengths and slot codes at the ends of their ranges; the active map while RUNNING and the other one. -/
theorem witness_SlotLengthAndMapRequests :
    let s := at_ .awaitBoundary point
    point.accepting ∧ s.accepting ∧ s.sched.isRunning = true ∧ point.sched.isRunning = false
      ∧ ((249 : Half).toNat < 250 ∧ 250 ≤ (250 : Half).toNat ∧ (4000 : Half).toNat ≤ 4000 ∧ 4000 < (4001 : Half).toNat)
      ∧ (1 ≤ [(1024 : Half)].length ∧ (31 : Byte).toNat + [(1024 : Half)].length ≤ 32 ∧ ¬ (31 : Byte).toNat + 2 ≤ 32)
      ∧ (256 ≤ (271 : Half).toNat ∧ (271 : Half).toNat ≤ 271 ∧ 271 < (272 : Half).toNat ∧ (773 : Half).toNat ≤ 773)
      ∧ (1 : Byte).toNat = (1 : Fin 2).val ∧ (0 : Fin 2) = s.sched.active ∧ (1 : Fin 2) ≠ s.sched.active ∧ 1 < (2 : Byte).toNat := by
  decide +kernel

theorem witness_SwitchStartAndStop :
    point.accepting ∧ point.sched.isRunning = false ∧ (point.sched.maps.look 1).sum = 65535
      ∧ (badMap.accepting ∧ badMap.sched.isRunning = false ∧ (badMap.sched.maps.look badMap.sched.active).sum ≠ 65535)
      ∧ ((after .mapSwitch badMap).sched.active = 1 ∧ ((after .mapSwitch badMap).sched.maps.look 0).sum ≠ 65535)
      ∧ (inBurst.accepting ∧ inBurst.sched.isRunning = true ∧ inBurst.sched.state = .running (slot 6 (.tx 7) .body)) := by
  decide +kernel

/-- The scanner in each state and mode that a clause names, and each field of SCAN SET one beyond its range. -/
theorem witness_ScanRequestsFollowTheState :
    let stepping : State := { point with scan := { point.scan with settings := ⟨.step, 2, 4, true, false⟩, state := .waiting 2 3 } }
    let locked : State := { point with scan := { point.scan with settings := ⟨.onceLocked, 4, 1, false, true⟩, state := .armed 5 } }
    point.accepting ∧ (3 < (4 : Byte).toNat ∧ 5 < (6 : Byte).toNat ∧ 1 < (2 : Byte).toNat) ∧ point.scan.state = .idle
      ∧ (stepping.scan.state = .waiting 2 3 ∧ stepping.scan.settings.mode = .step)
      ∧ ((inDwell .body).scan.state ≠ .idle ∧ (inDwell .body).scan.settings.mode = .once)
      ∧ (locked.scan.state ≠ .idle ∧ locked.scan.settings.mode ≠ .once ∧ locked.scan.settings.mode ≠ .step) := by
  decide +kernel

/-- The report's condition; a dwell with and without a quiet code; and each mode at the stop sector and before it. -/
theorem witness_DwellEndsReportAndMoveOn :
    let s := fun (mode : ScanMode) (stop : Sector) =>
      { inDwell .tail with scan := { (inDwell .tail).scan with settings := ⟨mode, 1, stop, false, false⟩ } }
    let next := fun (mode : ScanMode) (stop : Sector) => ((s mode stop).dwellEnd dwell).scan.state
    (inDwell .tail).isPending .scanner = false
      ∧ dwell.quiet = none ∧ ((inDwell .tail).dwellEnd dwell).mon.floors.look 4 = 150
      ∧ ((inDwell .tail).dwellEnd { dwell with quiet := some 99 }).mon.floors.look 4 = 99
      ∧ next .once 4 = .idle ∧ next .onceLocked 5 = .armed 5 ∧ next .repeat 4 = .armed 1 ∧ next .repeat 3 = .armed 5
      ∧ next .step 4 = .waiting 4 1 ∧ next .step 5 = .waiting 4 5 := by
  decide +kernel

/-- A beacon of no neighbour, and one of neighbour 7 in a state of each kind, below, at and above the thresholds. -/
theorem witness_BeaconsMoveTheNeighbour :
    (∀ m, (point.nbr m).state = .vacant ∨ (point.nbr m).nodeId ≠ some 305)
      ∧ ((point.nbr 7).state ≠ .vacant ∧ (point.nbr 7).nodeId = some (beacon118 260 0 0).nodeId
        ∧ ∀ m, m ≠ 7 → (point.nbr m).state = .vacant ∨ (point.nbr m).nodeId ≠ some (beacon118 260 0 0).nodeId)
      ∧ ((pointIn .up .lost).nbr 7).state.heard = false ∧ (point.nbr 7).state.heard = true
      ∧ ((189 : Code).toNat - 150 < 40 ∧ 40 ≤ (190 : Code).toNat - 150)
      ∧ ((point.nbr 7).epoch = some 41 ∧ (point.nbr 7).epoch ≠ some 42 ∧ (point.nbr 7).epoch ≠ none)
      ∧ ((point.nbr 7).sector = some 4 ∧ (point.nbr 7).sector ≠ some 3 ∧ (point.nbr 7).acc = some 1360)
      ∧ ((pointIn .up .weak).nbr 7).state ≠ .up ∧ (point.nbr 7).state = .up := by
  decide +kernel

theorem witness_IdentifyAndStatus :
    point.accepting ∧ (¬ 1 ≤ (0 : Half).toNat ∧ ¬ (4095 : Half).toNat ≤ 4094) ∧ (1 ≤ (4094 : Half).toNat ∧ (4094 : Half).toNat ≤ 4094)
      ∧ (point.sched.isRunning = false ∧ ∀ m, (point.nbr m).state = .vacant ∨ (point.nbr m).nodeId ≠ some 4094)
      ∧ ((point.nbr 2).state ≠ .vacant ∧ (point.nbr 2).nodeId = some 212) ∧ inBurst.sched.isRunning = true := by
  decide +kernel

theorem witness_SupplyEdgesCutAndHold : (after .reset host).part.starting ≠ none ∧ inBurst.part.starting = none := by
  decide +kernel

theorem witness_WarmRestartKeepsWhatTheHostSet :
    stocked.accepting ∧ 1 < (2 : Byte).toNat ∧ (stocked.nbr 0).state = .vacant ∧ (stocked.nbr 7).state ≠ .vacant := by
  decide +kernel

theorem witness_ColdStartsTakeTheColdValues :
    stocked.accepting ∧ stocked.part.starting ≠ some .power ∧ (after .powerOn stocked).part.starting = some .power
      ∧ stocked.part.starting = none ∧ (after .reset stocked).part.starting = some .pin := by
  decide +kernel

/-- Destinations 1 and 4094, an ACKSET of eight sequences, and node ids 1 and 4094 in a beacon. -/
theorem witness_AirFramesReadBack :
    (1 ≤ (dataFrom7 1 4094 0).payload.length ∧ (dataFrom7 1 4094 0).payload.length ≤ 1440 ∧ (dataFrom7 1 4094 0).dest ≠ 0
        ∧ (dataFrom7 1 4094 0).dest ≠ 4095 ∧ (1 : BitVec 12) ≠ 0)
      ∧ (List.replicate 8 (0 : Seq)).length ≤ 8 ∧ (1 ≤ (1 : Half).toNat ∧ (4094 : Half).toNat ≤ 4094)
      ∧ (dataBytes (dataFrom7 1 4094 0)).length = 21 := by
  decide +kernel

/-! ### A state of some depth that obeys every law, with a command to run -/

/-- The burst of 06 on the air while a READ offers a LINK notice, and BURST_END waits. -/
def busy : State :=
  { inBurst with
    link := { inBurst.link with phase := .reading (.notice (.link 2)) (linkNotice 2).record ⟨2, none⟩
                                notices := [startNotice, linkNotice 2] }
    pending := [.burstEnd] }

theorem busy_steps : step busy = .next (after .burstEnd (busy.withPending [])) := by
  have h : exec .burstEnd (busy.withPending []) = .next (after .burstEnd (busy.withPending [])) := next_of_runs (by decide +kernel)
  exact h

theorem busy_store : StoreLaw busy := inBurst_store

theorem busy_path : PathLaw busy := pathLaw_of (by decide +kernel)

theorem busy_memory : MemoryLaw busy ∧ PageLaw busy := ⟨by unfold MemoryLaw; decide +kernel, stocked_pages⟩

theorem busy_settings : SettingsLaw busy := by unfold SettingsLaw LinkSettings.InRange; decide +kernel

theorem busy_neighbours : NeighbourLaw busy := by
  have h : ∀ n, ((busy.nbr n).state = .vacant → busy.nbr n = Nbr.vacant)
      ∧ ((busy.nbr n).state.heard = true → (busy.nbr n).sector ≠ none ∧ (busy.nbr n).epoch ≠ none ∧ (busy.nbr n).acc ≠ none)
      ∧ ((busy.nbr n).state ≠ .vacant → ∃ id ∈ (busy.nbr n).nodeId, 1 ≤ id ∧ id ≤ 4094
        ∧ (∀ m, m ≠ n → (busy.nbr m).nodeId ≠ some id) ∧ ∀ i ∈ busy.part.identity, i.nodeId ≠ id) := by decide +kernel
  exact h

theorem busy_host : NoticeLaw busy ∧ PortLaw busy := by
  refine ⟨?_, ?_, ?_, ?_, ?_⟩
  · unfold NoticeLaw; decide +kernel
  · exact fun h => nomatch h
  · exact fun h => nomatch h
  · exact fun h => (h rfl).elim
  · intro item record c h
    obtain ⟨rfl, rfl, rfl⟩ := Phase.reading.inj h
    exact ⟨by decide, fun h => (nomatch h), fun h => (nomatch h), fun src h => by obtain rfl := Item.notice.inj h; decide +kernel,
      fun _ h => (nomatch h)⟩

theorem busy_ranges : MarginLaw busy ∧ WindowLaw busy ∧ SettingsLaw busy ∧ CounterLaw busy := by
  refine ⟨fun n => ⟨fun a e => ?_, fun sec x e => ?_⟩, fun n => ?_, busy_settings, stocked_counters⟩
  · exact (by decide +kernel : ∀ n, ∀ a ∈ (busy.nbr n).acc, -2048 ≤ a ∧ a ≤ 6128) n a e
  · exact (by decide +kernel : ∀ n sec, ∀ x ∈ (busy.nbr n).margins.look sec, -128 ≤ x ∧ x ≤ 383) n sec x e
  · have h : ∀ n, (busy.nbr n).high = none ∧ (busy.nbr n).seen = [] := by decide +kernel
    rw [(h n).1]
    exact (h n).2

theorem busy_schedule : HoldLaw busy ∧ MapLaw busy ∧ CorrectionLaw busy ∧ FrontEndLaw busy ∧ ScannerLaw busy := by
  refine ⟨⟨by decide +kernel, by decide +kernel, by decide +kernel, ?_⟩, ?_, ?_, ?_, ?_⟩
  · exact fun i e => (by decide +kernel : ∀ i ∈ busy.part.identity, 1 ≤ i.nodeId ∧ i.nodeId ≤ 4094) i e
  · unfold MapLaw; decide +kernel
  · exact fun o e =>
      (by decide +kernel : ∀ o ∈ busy.sched.openSlot, o.corr.natAbs ≤ 25 ∧ (o.index ≠ 31 → o.corr = 0 ∧ o.boundaryTaken = false)) o e
  · refine ⟨fun h => (nomatch h), fun o e => ?_⟩
    obtain rfl := Option.some.inj e
    refine ⟨fun h => (h rfl).elim, fun ctx h => ?_, by decide +kernel, fun _ h => (nomatch h), fun _ h => (nomatch h), by decide,
      by decide +kernel, by decide +kernel, fun air h k => ?_⟩
    · obtain rfl := Option.some.inj h
      exact ⟨⟨7, rfl⟩, fun _ => rfl, fun h => (nomatch h)⟩
    · obtain rfl := Option.some.inj h
      exact (k rfl).elim
  · exact ⟨fun _ _ h => (nomatch h), fun _ h => (nomatch h), fun _ h => (nomatch h)⟩

theorem witness_StepsKeepTheStorage : MemoryLaw busy ∧ PageLaw busy ∧ step busy = .next (after .burstEnd (busy.withPending [])) :=
  ⟨busy_memory.1, busy_memory.2, busy_steps⟩

theorem witness_StepsKeepThePathTable : PathLaw busy ∧ step busy = .next (after .burstEnd (busy.withPending [])) :=
  ⟨busy_path, busy_steps⟩

theorem witness_StepsKeepTheQueues :
    PathLaw busy ∧ SettingsLaw busy ∧ PortLaw busy ∧ StoreLaw busy ∧ step busy = .next (after .burstEnd (busy.withPending [])) :=
  ⟨busy_path, busy_settings, busy_host.2, busy_store, busy_steps⟩

theorem witness_StepsKeepTheNeighbours :
    PathLaw busy ∧ StoreLaw busy ∧ NeighbourLaw busy ∧ step busy = .next (after .burstEnd (busy.withPending [])) :=
  ⟨busy_path, busy_store, busy_neighbours, busy_steps⟩

theorem witness_StepsKeepTheHostLink :
    NoticeLaw busy ∧ PortLaw busy ∧ step busy = .next (after .burstEnd (busy.withPending [])) :=
  ⟨busy_host.1, busy_host.2, busy_steps⟩

theorem witness_StepsKeepTheRanges :
    (MarginLaw busy ∧ WindowLaw busy ∧ SettingsLaw busy ∧ CounterLaw busy)
      ∧ step busy = .next (after .burstEnd (busy.withPending [])) :=
  ⟨busy_ranges, busy_steps⟩

theorem witness_StepsKeepTheSchedule :
    (HoldLaw busy ∧ MapLaw busy ∧ CorrectionLaw busy ∧ FrontEndLaw busy ∧ ScannerLaw busy)
      ∧ step busy = .next (after .burstEnd (busy.withPending [])) :=
  ⟨busy_schedule, busy_steps⟩

end Sys2Proof.Tests
end

section
/-! The smoothing update of R6 by its cases, and the facts about its step floor(D / 2^k). -/

namespace Sys2Proof.Machine

open Sys2Proof

/-! ### The cases of the update -/

@[simp] theorem smooth_none (k : Nat) (mark : Bool) (x : Int) : smooth k none mark x = 16 * x := rfl

@[simp] theorem smooth_reseed (k : Nat) (acc : Option Int) (x : Int) : smooth k acc true x = 16 * x := by
  cases acc <;> rfl

theorem smooth_some (k : Nat) (a x : Int) : smooth k (some a) false x = a + (16 * x - a) / 2 ^ k := by
  simp [smooth]

/-- With k = 0 the step is the whole difference. -/
theorem smooth_zero (acc : Option Int) (mark : Bool) (x : Int) : smooth 0 acc mark x = 16 * x := by
  match acc, mark with
  | none, _ => exact smooth_none 0 _ x
  | some _, true => exact smooth_reseed 0 _ x
  | some a, false =>
    rw [smooth_some, pow_zero, Int.ediv_one]
    omega

/-! ### What an observation does to accumulator and mark -/

@[simp] theorem Nbr.sample_acc (r : Nbr) (c : LinkSettings) (x : Int) :
    (r.sample c x).acc = some (smooth c.k r.acc r.reseed x) := rfl

@[simp] theorem Nbr.sample_reseed (r : Nbr) (c : LinkSettings) (x : Int) : (r.sample c x).reseed = false := rfl

@[simp] theorem Nbr.missed_acc (r : Nbr) : r.missed.acc = r.acc := rfl

@[simp] theorem Nbr.missed_reseed (r : Nbr) : r.missed.reseed = r.reseed := rfl

/-! ### The step: a difference divided by a positive number, rounded toward minus infinity -/

/-- A negative difference divided by a positive number grows no larger in size, and rounding down keeps it negative. -/
theorem floorDiv_of_neg {d p : Int} (hp : 0 < p) (hd : d < 0) : d ≤ d / p ∧ d / p ≤ -1 := by
  have lower : d * p ≤ d := mul_le_of_one_le_right hd.le hp
  have negative : d / p < 0 := Int.ediv_neg_of_neg_of_pos hd hp
  exact ⟨Int.le_ediv_of_mul_le hp lower, by omega⟩

theorem floorDiv_of_nonneg {d p : Int} (hp : 0 < p) (hd : 0 ≤ d) : 0 ≤ d / p ∧ d / p ≤ d :=
  ⟨Int.ediv_nonneg hd hp.le, Int.ediv_le_self p hd⟩

/-- The step goes from the accumulator toward sixteen times the sample and never past it, so the result stays in every interval
that holds both. -/
theorem add_floorDiv_mem {lo hi a b p : Int} (hp : 0 < p) (ha : lo ≤ a ∧ a ≤ hi) (hb : lo ≤ b ∧ b ≤ hi) :
    lo ≤ a + (b - a) / p ∧ a + (b - a) / p ≤ hi := by
  obtain down | up := lt_or_ge (b - a) 0
  · have step := floorDiv_of_neg hp down
    omega
  · have step := floorDiv_of_nonneg hp up
    omega

end Sys2Proof.Machine

namespace Sys2Proof.Proofs

open Sys2Proof Sys2Proof.Machine

/-- Settles O13: the update by its cases, and the step floor(D / 2^k) by the sign of the difference. -/
theorem smoothingUpdate : Obligations.SmoothingUpdate := by
  refine ⟨fun k x mark => smooth_none k mark x, fun k a x => smooth_reseed k (some a) x, fun k a x => ?_,
    smooth_zero, fun r c x => ⟨r.sample_acc c x, r.sample_reseed c x⟩, fun r => ⟨r.missed_acc, r.missed_reseed⟩⟩
  have hp : (0 : Int) < 2 ^ k := by positivity
  refine ⟨(16 * x - a) / 2 ^ k, smooth_some k a x, Int.ediv_mul_le _ hp.ne', Int.lt_ediv_add_one_mul_self _ hp,
    floorDiv_of_nonneg hp, floorDiv_of_neg hp, Int.ediv_eq_zero_of_lt, fun ha ha' hx hx' => ?_⟩
  exact add_floorDiv_mem hp ⟨ha, ha'⟩ (by omega)

end Sys2Proof.Proofs
end

section
/-! Key comparison under a mask profile, position by position (R42). -/

namespace Sys2Proof.Machine

open Sys2Proof

/-- Two words agree once the positions of `m` are cleared exactly when they agree in every other position. -/
theorem and_not_eq_and_not_iff {w : Nat} (m a b : BitVec w) :
    a &&& ~~~m = b &&& ~~~m ↔ ∀ i, i < w → m.getLsbD i = false → a.getLsbD i = b.getLsbD i := by
  constructor
  · intro h i hi hm
    simpa only [BitVec.getLsbD_and, BitVec.getLsbD_not, hi, hm, decide_true, Bool.not_false, Bool.and_true] using
      congrArg (·.getLsbD i) h
  · intro h
    refine BitVec.eq_of_getLsbD_eq fun i hi => ?_
    rw [BitVec.getLsbD_and, BitVec.getLsbD_and, BitVec.getLsbD_not]
    cases hm : m.getLsbD i with
    | true => simp only [Bool.not_true, Bool.and_false]
    | false => rw [h i hi hm]

/-- Two words agree in every position from `k` up exactly when they lie in one block of `2 ^ k` numbers. -/
theorem getLsbD_eq_from_iff {w : Nat} (k : Nat) (a b : BitVec w) :
    (∀ i, i < w → k ≤ i → a.getLsbD i = b.getLsbD i) ↔ a.toNat / 2 ^ k = b.toNat / 2 ^ k := by
  constructor
  · intro h
    refine Nat.eq_of_testBit_eq fun j => ?_
    rw [Nat.testBit_div_two_pow, Nat.testBit_div_two_pow, BitVec.testBit_toNat, BitVec.testBit_toNat]
    obtain inside | outside := lt_or_ge (j + k) w
    · exact h _ inside (Nat.le_add_left k j)
    · rw [BitVec.getLsbD_of_ge a _ outside, BitVec.getLsbD_of_ge b _ outside]
  · intro h i _ hk
    have hj : (a.toNat / 2 ^ k).testBit (i - k) = (b.toNat / 2 ^ k).testBit (i - k) := by rw [h]
    simpa only [Nat.testBit_div_two_pow, Nat.sub_add_cancel hk, BitVec.testBit_toNat] using hj

theorem Mask.matches_iff (p : Mask) (k q : Key) : p.matches k q = true ↔
    (∀ i : Nat, i < 12 → p.ignore.getLsbD i = false → k.dest.getLsbD i = q.dest.getLsbD i)
      ∧ (p.cmpClass = false ∨ k.cls = q.cls) ∧ (p.cmpIngress = false ∨ k.ing = q.ing) := by
  rw [← and_not_eq_and_not_iff]
  simp [Mask.matches, and_assoc]

theorem Mask.matches_comm (p : Mask) (k q : Key) : p.matches k q = p.matches q k := by
  rw [Bool.eq_iff_iff, Mask.matches_iff, Mask.matches_iff]
  simp only [eq_comm]

/-- A profile that compares neither class nor ingress looks at the destinations alone. -/
theorem Mask.matches_iff_dest {p : Mask} (hc : p.cmpClass = false) (hi : p.cmpIngress = false) (k q : Key) :
    p.matches k q = true ↔
      ∀ i : Nat, i < 12 → p.ignore.getLsbD i = false → k.dest.getLsbD i = q.dest.getLsbD i := by
  simp [Mask.matches_iff, hc, hi]

theorem Mask.default_matches_iff (k q : Key) : Mask.default.matches k q = true ↔ k.dest = q.dest := by
  rw [Mask.matches_iff_dest rfl rfl]
  refine ⟨fun h => BitVec.eq_of_getLsbD_eq fun i hi => h i hi ?_, fun h i _ _ => by rw [h]⟩
  exact BitVec.getLsbD_zero

/-- With all twelve positions ignored no destination is compared. -/
theorem Mask.matches_of_ignore_all {p : Mask} (hp : p.ignore = 4095) (hc : p.cmpClass = false) (hi : p.cmpIngress = false)
    (k q : Key) : p.matches k q = true := by
  refine (Mask.matches_iff_dest hc hi k q).2 fun i hlt kept => ?_
  have ignored : ∀ i : Nat, i < 12 → (4095 : BitVec 12).getLsbD i = true := by decide
  rw [hp, ignored i hlt] at kept
  cases kept

/-- With the four lowest positions ignored destinations are compared by their block of sixteen. -/
theorem Mask.matches_ignore_low_four_iff {p : Mask} (hp : p.ignore = 15) (hc : p.cmpClass = false)
    (hi : p.cmpIngress = false) (k q : Key) : p.matches k q = true ↔ k.dest.toNat / 2 ^ 4 = q.dest.toNat / 2 ^ 4 := by
  have kept_iff : ∀ i : Nat, i < 12 → ((15 : BitVec 12).getLsbD i = false ↔ 4 ≤ i) := by decide
  rw [Mask.matches_iff_dest hc hi, hp, ← getLsbD_eq_from_iff]
  exact forall₂_congr fun i hlt => by rw [kept_iff i hlt]

end Sys2Proof.Machine

namespace Sys2Proof.Proofs

open Sys2Proof Sys2Proof.Machine

/-- Settles O21: the comparison read position by position, and its special profiles from that reading. -/
theorem keysMatchUnderAProfile : Obligations.KeysMatchUnderAProfile := by
  refine ⟨Mask.matches_iff, Mask.matches_comm, Mask.default_matches_iff,
    fun p k q hp hc hi => Mask.matches_of_ignore_all hp hc hi k q, fun p k q hp hk hc hi => ?_⟩
  have block : k.dest.toNat = 208 := by rw [hk]; rfl
  rw [Mask.matches_ignore_low_four_iff hp hc hi, block]
  omega

end Sys2Proof.Proofs
end

section
/-! TABLE CLEAR, MASK SET and MASK SELECT: what each field names, and what each request answers (R45, R46, R57). -/

namespace Sys2Proof.Machine

open Sys2Proof

/-! ### The fields of the requests -/

theorem scopeOf_eq_none {scope : Byte} (h : scope.toNat = 0 ∨ 4 < scope.toNat) : scopeOf scope = none := by
  unfold scopeOf
  split
  case h_5 => rfl
  all_goals omega

theorem profileOf_eq_none {profile : Byte} (h : 1 < profile.toNat) : profileOf profile = none := by
  unfold profileOf
  split
  case h_3 => rfl
  all_goals omega

theorem flagOf_eq_none {b : Byte} (h : 1 < b.toNat) : flagOf b = none := by
  unfold flagOf
  split
  case h_3 => rfl
  all_goals omega

@[simp] theorem flagOf_of_bool (b : Bool) : flagOf (if b then 1 else 0) = some b := by
  cases b <;> rfl

/-- One field of a profile out of its range is enough for the refusal. -/
theorem maskOf_eq_none {ignore : Half} {c g : Byte} (h : 4095 < ignore.toNat ∨ 1 < c.toNat ∨ 1 < g.toNat) :
    maskOf ignore c g = none := by
  unfold maskOf
  obtain high | high | high := h
  · split
    · exact if_neg (Nat.not_le.2 high)
    · rfl
  · rw [flagOf_eq_none high]
  · rw [flagOf_eq_none high]
    cases flagOf c <;> rfl

/-- A profile carried as R45 has it is the profile taken. -/
theorem maskOf_of_mask (m : Mask) :
    maskOf (m.ignore.setWidth 16) (if m.cmpClass then 1 else 0) (if m.cmpIngress then 1 else 0) = some m := by
  have width : (m.ignore.setWidth 16).toNat ≤ 4095 := by
    have := m.ignore.isLt
    rw [BitVec.toNat_setWidth]
    omega
  have back : (m.ignore.setWidth 16).setWidth 12 = m.ignore := by
    simp
  unfold maskOf
  rw [flagOf_of_bool, flagOf_of_bool, back]
  exact if_pos width

/-! ### What a clear frees -/

theorem inScope_all : inScope none = Option.isSome := by
  funext e
  cases e <;> rfl

/-- After a freeing the last-match index is what it was, unless it names an entry freed. -/
theorem PathTable.lastAfter_eq_filter (t : PathTable) (freed : Entry → Bool) :
    t.lastAfter freed = t.lastMatch.filter fun i => !freed (t.entries.look i) := by
  unfold PathTable.lastAfter
  cases t.lastMatch with
  | none => rfl
  | some i => cases h : freed (t.entries.look i) <;> simp [Option.filter, h]

/-- Scope ALL leaves no entry in use and no last-match index. -/
theorem State.clearTable_all (s : State) :
    s.clearTable none = { s with path := { s.path with entries := Tab.all 256 none, lastMatch := none } } := by
  have emptied : s.path.entries.each (fun e => if inScope none e then none else e) = Tab.all 256 none := by
    refine Tab.ext_look fun i => ?_
    rw [Tab.look_each, Tab.look_all, inScope_all]
    cases s.path.entries.look i <;> rfl
  rw [← emptied]
  rfl

/-! ### What the requests answer -/

section
variable {s : State} (h : s.accepting)
include h

theorem exec_tableClear_refused {scope : Byte} (hs : scopeOf scope = none) :
    exec (.tableClear scope) s = .next (s.answered 0x0C .range .empty) := by
  refine (State.takeRequest_accepting h fun t => t.tableClear scope).trans ?_
  simp only [State.tableClear, hs]
  rfl

theorem exec_tableClear {scope : Byte} {sc : Option RouteState} (hs : scopeOf scope = some sc) :
    exec (.tableClear scope) s = .next
      ((s.clearTable sc).answered 0x0C .ok (.freed (s.path.entries.count (inScope sc)))) := by
  refine (State.takeRequest_accepting h fun t => t.tableClear scope).trans ?_
  simp only [State.tableClear, hs]
  cases sc <;> rfl

theorem exec_maskSet_refused {profile : Byte} {ignore : Half} {c g : Byte}
    (hr : profileOf profile = none ∨ maskOf ignore c g = none) :
    exec (.maskSet profile ignore c g) s = .next (s.answered 0x0D .range s.path.maskBody) := by
  refine (State.takeRequest_accepting h fun t => t.maskSet profile ignore c g).trans ?_
  unfold State.maskSet
  split
  · next hp hm => simp [hp, hm] at hr
  · rfl

theorem exec_maskSet {profile : Byte} {ignore : Half} {c g : Byte} {p : Profile} {m : Mask}
    (hp : profileOf profile = some p) (hm : maskOf ignore c g = some m) :
    exec (.maskSet profile ignore c g) s = .next
      ((s.setPath (s.path.setMask p m)).answered 0x0D .ok (s.path.setMask p m).maskBody) := by
  refine (State.takeRequest_accepting h fun t => t.maskSet profile ignore c g).trans ?_
  simp only [State.maskSet, hp, hm]
  rfl

theorem exec_maskSelect_refused {profile : Byte} (hp : profileOf profile = none) :
    exec (.maskSelect profile) s = .next (s.answered 0x0E .range .empty) := by
  refine (State.takeRequest_accepting h fun t => t.maskSelect profile).trans ?_
  simp only [State.maskSelect, hp]
  rfl

theorem exec_maskSelect {profile : Byte} {p : Profile} (hp : profileOf profile = some p) :
    exec (.maskSelect profile) s = .next
      ((s.setPath { s.path with active := p }).answered 0x0E .ok (.masks s.path.maskA s.path.maskB p)) := by
  refine (State.takeRequest_accepting h fun t => t.maskSelect profile).trans ?_
  simp only [State.maskSelect, hp]
  rfl

end

end Sys2Proof.Machine

namespace Sys2Proof.Proofs

open Sys2Proof Sys2Proof.Machine

/-- Settles O27: each request by what its fields name, and the clear by the entries in its scope. -/
theorem tableClearAndMaskRequests : Obligations.TableClearAndMaskRequests := by
  intro s h
  refine ⟨⟨fun scope hs => exec_tableClear_refused h (scopeOf_eq_none hs), ?_, ?_⟩, fun profile ignore c g hr => ?_,
    fun m => ⟨exec_maskSet h (p := .a) rfl (maskOf_of_mask m), exec_maskSet h (p := .b) rfl (maskOf_of_mask m)⟩,
    fun profile hp => exec_maskSelect_refused h (profileOf_eq_none hp), exec_maskSelect h rfl, exec_maskSelect h rfl⟩
  · rw [exec_tableClear h (sc := none) rfl, State.clearTable_all, inScope_all]
    rfl
  · intro scope hscope freed
    have named : ∀ sc ∈ [((1 : Byte), RouteState.live), (2, .parked), (3, .barred)],
        scopeOf sc.1 = some (some sc.2) := by decide
    have in_scope : inScope (some scope.2) = freed := by
      funext e
      cases e <;> rfl
    rw [exec_tableClear h (named scope hscope), in_scope]
    refine ⟨s.clearTable (some scope.2), _, rfl, rfl, ?_⟩
    rw [show s.clearTable (some scope.2) = s.freeEntries freed from congrArg s.freeEntries in_scope]
    exact ⟨s.entry_freeEntries freed, s.path.lastAfter_eq_filter freed, rfl⟩
  · refine exec_maskSet_refused h ?_
    obtain high | high := hr
    · exact .inl (profileOf_eq_none high)
    · exact .inr (maskOf_eq_none high)

end Sys2Proof.Proofs
end

section
/-! COUNTERS: the values before any clearing, and the clearing (R73). -/

namespace Sys2Proof.Machine

open Sys2Proof

section
variable {s : State} (h : s.accepting)
include h

theorem exec_counters_refused {clear : Byte} (hc : flagOf clear = none) :
    exec (.counters clear) s = .next (s.answered 0x10 .range .empty) := by
  refine (State.takeRequest_accepting h fun t => t.countersRequest clear).trans ?_
  simp only [State.countersRequest, hc]
  rfl

theorem exec_counters {clear : Byte} {c : Bool} (hc : flagOf clear = some c) :
    exec (.counters clear) s = .next ((if c then s.clearCounters else s).answered 0x10 .ok
      (.counters s.store.discards s.store.checkFail s.store.foreign)) := by
  refine (State.takeRequest_accepting h fun t => t.countersRequest clear).trans ?_
  simp only [State.countersRequest, hc]
  cases c <;> rfl

end

end Sys2Proof.Machine

namespace Sys2Proof.Proofs

open Sys2Proof Sys2Proof.Machine

/-- Settles O31: the request by what its clear option names. -/
theorem countersReportsAndClears : Obligations.CountersReportsAndClears := by
  intro s h body
  exact ⟨fun clear hc => exec_counters_refused h (flagOf_eq_none hc), exec_counters h (c := false) rfl,
    exec_counters h (c := true) rfl⟩

end Sys2Proof.Proofs
end

section
/-! The receive window: the four classes of a sequence (R83), and the window after acceptance (R82, R86). -/

namespace Sys2Proof.Machine

open Sys2Proof

/-! ### Distances behind the highest sequence -/

@[simp] theorem behind_self (h : Seq) : behind h h = 0 := by
  simp [behind]

theorem behind_sub_ofNat (h : Seq) {k : Nat} (hk : k < 4096) : behind h (h - BitVec.ofNat 12 k) = k := by
  have back : h - (h - BitVec.ofNat 12 k) = BitVec.ofNat 12 k := sub_sub_cancel _ _
  rw [behind, back, BitVec.toNat_ofNat]
  exact Nat.mod_eq_of_lt hk

/-- A window runs from the oldest sequence to the newest, each once (R82). -/
theorem pairwise_windowOf (h : Seq) (set : List Seq) :
    (windowOf h set).Pairwise fun x y => behind h y < behind h x := by
  refine List.Pairwise.filter _ (List.pairwise_map.mpr (List.pairwise_reverse.mpr ?_))
  refine List.pairwise_lt_range.imp_of_mem fun {i j} hi hj lt => ?_
  rw [List.mem_range] at hi hj
  rwa [behind_sub_ofNat h (by omega), behind_sub_ofNat h (by omega)]

/-! ### The class of a sequence, by its distance -/

section
variable {r : Nbr} {h q : Seq}

theorem Nbr.classify_of_high_none (hr : r.high = none) : r.classify q = .fresh := by
  simp [Nbr.classify, hr]

theorem Nbr.classify_of_seen (hr : r.high = some h) (hb : behind h q ≤ 31) (hq : q ∈ r.seen) :
    r.classify q = .duplicate := by
  simp [Nbr.classify, hr, hb, hq]

theorem Nbr.classify_of_not_seen (hr : r.high = some h) (hb : behind h q ≤ 31) (hq : q ∉ r.seen) :
    r.classify q = .fresh := by
  simp [Nbr.classify, hr, hb, hq]

theorem Nbr.classify_of_far_behind (hr : r.high = some h) (far : 32 ≤ behind h q) (hb : behind h q ≤ 2048) :
    r.classify q = .stale := by
  have outside : ¬ behind h q ≤ 31 := by omega
  simp [Nbr.classify, hr, outside, hb]

theorem Nbr.classify_of_ahead (hr : r.high = some h) (ahead : 2049 ≤ behind h q) : r.classify q = .fresh := by
  have outside : ¬ behind h q ≤ 31 := by omega
  have not_stale : ¬ behind h q ≤ 2048 := by omega
  simp [Nbr.classify, hr, outside, not_stale]

/-! ### The window after acceptance -/

theorem Nbr.accept_of_high_none (hr : r.high = none) : r.accept q = { r with high := some q, seen := [q] } := by
  simp [Nbr.accept, hr]

theorem Nbr.accept_of_high_some (hr : r.high = some h) :
    r.accept q = { r with
      high := some (if behind h q ≤ 31 then h else q)
      seen := windowOf (if behind h q ≤ 31 then h else q) (q :: r.seen) } := by
  simp [Nbr.accept, hr]

end

end Sys2Proof.Machine

namespace Sys2Proof.Proofs

open Sys2Proof Sys2Proof.Machine

/-- Settles O32: each class by the distance behind the highest sequence, and the accepted window by its members and order. -/
theorem windowClasses : Obligations.WindowClasses := by
  refine ⟨fun r q hr => ⟨Nbr.classify_of_high_none hr, Nbr.accept_of_high_none hr⟩, fun r h q hr => ?_⟩
  simp only [← behind_eq]
  refine ⟨Nbr.classify_of_seen hr, Nbr.classify_of_not_seen hr, Nbr.classify_of_far_behind hr, Nbr.classify_of_ahead hr,
    Nbr.classify_of_seen hr (by simp), fun _ => ⟨_, Nbr.accept_of_high_some hr, fun x => ?_, pairwise_windowOf _ _⟩⟩
  rw [mem_windowOf, List.mem_cons]

end Sys2Proof.Proofs
end

section
/-! The pieces of the state, and what each shared operation and each command can change: a command's footprint. -/

namespace Sys2Proof.Machine

open Sys2Proof

/-! ### Pieces -/

/-- The fields of the state's blocks, the front end taken as one. -/
inductive Piece where
  | phase | error | staged | reply | notices
  | nbrs | settings | floors
  | entries | maskA | maskB | profile | lastMatch
  | frames | pool | mem | picks | queues | delivery | discards | checkFail | foreign
  | radio
  | progress | count | holds | maps | active | slotLen | sync | pendingD | lastD
  | scanSettings | scanState | ignored
  | identity | latch | supplyLow | resetLow | cause | starting
  | pending
  deriving DecidableEq

/-- A piece is the same in two states. -/
def Piece.Same (s t : State) : Piece → Prop
  | .phase => t.link.phase = s.link.phase
  | .error => t.link.error = s.link.error
  | .staged => t.link.staged = s.link.staged
  | .reply => t.link.reply = s.link.reply
  | .notices => t.link.notices = s.link.notices
  | .nbrs => t.mon.nbrs = s.mon.nbrs
  | .settings => t.mon.settings = s.mon.settings
  | .floors => t.mon.floors = s.mon.floors
  | .entries => t.path.entries = s.path.entries
  | .maskA => t.path.maskA = s.path.maskA
  | .maskB => t.path.maskB = s.path.maskB
  | .profile => t.path.active = s.path.active
  | .lastMatch => t.path.lastMatch = s.path.lastMatch
  | .frames => t.store.frames = s.store.frames
  | .pool => t.store.pool = s.store.pool
  | .mem => t.store.mem = s.store.mem
  | .picks => t.store.picks = s.store.picks
  | .queues => t.store.queues = s.store.queues
  | .delivery => t.store.delivery = s.store.delivery
  | .discards => t.store.discards = s.store.discards
  | .checkFail => t.store.checkFail = s.store.checkFail
  | .foreign => t.store.foreign = s.store.foreign
  | .radio => t.radio = s.radio
  | .progress => t.sched.state = s.sched.state
  | .count => t.sched.count = s.sched.count
  | .holds => t.sched.holds = s.sched.holds
  | .maps => t.sched.maps = s.sched.maps
  | .active => t.sched.active = s.sched.active
  | .slotLen => t.sched.slotLen = s.sched.slotLen
  | .sync => t.sched.sync = s.sched.sync
  | .pendingD => t.sched.pendingD = s.sched.pendingD
  | .lastD => t.sched.lastD = s.sched.lastD
  | .scanSettings => t.scan.settings = s.scan.settings
  | .scanState => t.scan.state = s.scan.state
  | .ignored => t.scan.ignored = s.scan.ignored
  | .identity => t.part.identity = s.part.identity
  | .latch => t.part.latch = s.part.latch
  | .supplyLow => t.part.supplyLow = s.part.supplyLow
  | .resetLow => t.part.resetLow = s.part.resetLow
  | .cause => t.part.cause = s.part.cause
  | .starting => t.part.starting = s.part.starting
  | .pending => t.pending = s.pending

theorem Piece.Same.trans {s t u : State} {p : Piece} (h : p.Same s t) (k : p.Same t u) : p.Same s u := by
  cases p <;> exact Eq.trans k h

/-- From `s` to `t` at most these pieces change. -/
def Changes (ps : List Piece) (s t : State) : Prop := ∀ p : Piece, ps.contains p = false → p.Same s t

theorem Changes.refl (ps : List Piece) (s : State) : Changes ps s s := fun p _ => by cases p <;> rfl

theorem Changes.mono {ps qs : List Piece} {s t : State} (h : Changes ps s t) (sub : ∀ p ∈ ps, p ∈ qs) : Changes qs s t := by
  intro p hp
  refine h p ?_
  rw [List.contains_eq_mem, decide_eq_false_iff_not] at hp ⊢
  exact fun m => hp (sub p m)

/-- A further change within the same pieces. -/
theorem Changes.andThen {ps qs : List Piece} {s t u : State} (h : Changes ps s t) (k : Changes qs t u)
    (sub : ∀ p ∈ qs, p ∈ ps := by decide) : Changes ps s u :=
  fun p hp => (h p hp).trans (k.mono sub p hp)

/-! ### What the shared operations change -/

section
variable (s : State)

theorem changes_reply (k : Byte) (c : ResultCode) (b : ReplyBody) : Changes [.reply] s (s.reply k c b) :=
  fun p hp => by cases p <;> cases hp <;> rfl

theorem changes_post (src : Source) (c : NoticeContent) (r : Option Rescue) :
    Changes [.phase, .notices] s (s.post src c r) :=
  fun p hp => by cases p <;> cases hp <;> rfl

theorem changes_setRadio (r : Radio) : Changes [.radio] s (s.setRadio r) :=
  fun p hp => by cases p <;> cases hp <;> rfl

theorem changes_setNbr (n : NbrIdx) (r : Nbr) : Changes [.nbrs] s (s.setNbr n r) :=
  fun p hp => by cases p <;> cases hp <;> rfl

theorem changes_setScan_state (st : ScanState) : Changes [.scanState] s (s.setScan { s.scan with state := st }) :=
  fun p hp => by cases p <;> cases hp <;> rfl

theorem changes_setEntry (i : EntryIdx) (e : Entry) : Changes [.entries] s (s.setEntry i e) :=
  fun p hp => by cases p <;> cases hp <;> rfl

theorem changes_setQueue (n : NbrIdx) (q : List Handle) : Changes [.queues] s (s.setQueue n q) :=
  fun p hp => by cases p <;> cases hp <;> rfl

theorem changes_setFrame (h : Handle) (f : Option FrameRec) : Changes [.frames] s (s.setFrame h f) :=
  fun p hp => by cases p <;> cases hp <;> rfl

theorem changes_countDiscard (w : Reason) : Changes [.discards] s (s.countDiscard w) :=
  fun p hp => by cases p <;> cases hp <;> rfl

theorem changes_release (h : Handle) : Changes [.frames, .pool] s (s.release h) := by
  obtain ⟨_, _, e⟩ := s.release_spec h
  rw [e]
  exact fun p hp => by cases p <;> cases hp <;> rfl

theorem changes_discard (w : Reason) (h : Handle) : Changes [.frames, .pool, .discards] s (s.discard w h) :=
  ((changes_release s h).mono (by decide)).andThen (changes_countDiscard _ w)

theorem changes_frameLookup (q : Key) : Changes [.entries] s (s.frameLookup q).2 := by
  obtain ⟨-, e⟩ | ⟨i, r, -, -, -, e⟩ := s.frameLookup_spec q
  · rw [e]
    exact .refl _ s
  · rw [e]
    exact changes_setEntry s i _

theorem changes_appendQueue (m : NbrIdx) (h : Handle) : Changes [.nbrs, .frames, .queues] s (s.appendQueue m h) :=
  fun p hp => by cases p <;> cases hp <;> rfl

theorem changes_appendDelivery (h : Handle) (u : Bool) : Changes [.frames, .delivery] s (s.appendDelivery h u) :=
  fun p hp => by cases p <;> cases hp <;> rfl

theorem changes_allocate (h : Handle) (ing : Ingress) (dest : BitVec 12) (cls : BitVec 3) (hops : BitVec 4)
    (payload : List Byte) : Changes [.frames, .pool, .mem, .picks] s (s.allocate h ing dest cls hops payload) :=
  fun p hp => by cases p <;> cases hp <;> rfl

theorem changes_trigger : Changes [.radio, .scanState, .ignored] s s.trigger.1 := by
  obtain ⟨_, _, _, e⟩ := s.trigger_spec
  rw [e]
  exact fun p hp => by cases p <;> cases hp <;> rfl

theorem changes_lossTrigger : Changes [.radio, .scanState, .ignored] s s.lossTrigger := by
  unfold State.lossTrigger
  split
  · exact changes_trigger s
  · exact .refl _ s

theorem changes_boundaryTrigger : Changes [.radio, .scanState, .ignored] s s.boundaryTrigger := by
  unfold State.boundaryTrigger
  split
  · exact changes_trigger s
  · exact .refl _ s

/-- What the disposal of frames by lookups can change. -/
def routingPieces : List Piece := [.nbrs, .entries, .frames, .pool, .queues, .delivery, .discards]

theorem changes_rescueOne (acc : State × Rescue) (h : Handle) : Changes routingPieces acc.1 (rescueOne acc h).1 := by
  unfold rescueOne
  split
  · exact .refl _ _
  · next f _ =>
    have looked := (changes_frameLookup acc.1 { dest := f.dest, cls := f.cls, ing := f.ing }).mono
      (qs := routingPieces) (by decide)
    dsimp only
    split
    · exact looked.andThen (changes_discard _ _ _)
    · split
      · exact looked.andThen (changes_discard _ _ _)
      · exact looked.andThen (changes_appendDelivery _ _ _)
      · split
        · exact looked.andThen (changes_discard _ _ _)
        · split
          · exact looked.andThen (changes_appendQueue _ _ _)
          · exact looked.andThen (changes_discard _ _ _)

/-- A fold changes at most what each of its steps changes. -/
theorem changes_foldl {α σ : Type} {ps : List Piece} (f : σ → α → σ) (st : σ → State)
    (one : ∀ a x, Changes ps (st a) (st (f a x))) (l : List α) (a : σ) : Changes ps (st a) (st (l.foldl f a)) := by
  induction l generalizing a with
  | nil => exact .refl _ _
  | cons x rest ih => exact (one a x).andThen (ih (f a x)) (fun _ h => h)

theorem changes_rescue (n : NbrIdx) : Changes routingPieces s (s.rescue n).1 :=
  ((changes_setQueue s n []).mono (by decide)).andThen
    (changes_foldl rescueOne Prod.fst changes_rescueOne (s.queue n) (s.setQueue n [], ⟨0, 0⟩))

theorem changes_parkFor (n : NbrIdx) (old new : LinkState) : Changes [.entries] s (s.parkFor n old new) := by
  obtain ⟨_, e⟩ := s.parkFor_spec n old new
  rw [e]
  exact fun p hp => by cases p <;> cases hp <;> rfl

/-- What a neighbour's change of state can change. -/
def linkPieces : List Piece :=
  [.phase, .notices, .nbrs, .entries, .frames, .pool, .queues, .delivery, .discards, .radio, .scanState, .ignored]

theorem changes_measure (b : HeardBeacon) : Changes [.phase, .notices, .holds, .pendingD, .lastD] s (s.measure b) := by
  obtain ⟨_, _, _, _, _, e⟩ := s.measure_spec b
  rw [e]
  exact fun p hp => by cases p <;> cases hp <;> rfl

theorem changes_writeFloor (sec : Sector) (q : Option Code) : Changes [.floors] s (s.writeFloor sec q) := by
  unfold State.writeFloor
  split
  · exact .refl _ s
  · exact fun p hp => by cases p <;> cases hp <;> rfl

theorem changes_changeState (n : NbrIdx) (new : LinkState) (cause : LinkCause) :
    Changes linkPieces s (s.changeState n new cause) := by
  unfold State.changeState State.afterChange
  have parked := ((changes_setNbr s n { (s.nbr n).clearRuns with state := new }).mono (qs := linkPieces) (by decide)).andThen
    (changes_parkFor _ n (s.nbr n).state new)
  dsimp only
  split
  · exact ((parked.andThen (changes_rescue _ n)).andThen (changes_lossTrigger _)).andThen (changes_post _ _ _ _)
  · exact parked.andThen (changes_post _ _ _ _)

theorem changes_observe (n : NbrIdx) (sample : Option Int) : Changes linkPieces s (s.observe n sample) := by
  unfold State.observe
  dsimp only
  have stored := fun r => (changes_setNbr s n r).mono (qs := linkPieces) (by decide)
  split
  · split
    · exact (stored _).andThen (changes_changeState _ n _ _)
    · exact stored _
  · exact .refl _ s

/-- What settling can change. -/
def settlePieces : List Piece := [.nbrs, .frames, .pool, .queues, .discards]

theorem changes_settleOne (n : NbrIdx) (list : List Seq) (hq : Handle × Seq) :
    Changes settlePieces s (settleOne n list s hq) := by
  have counted := fun (t : State) r => (changes_setNbr t n r).mono (qs := settlePieces) (by decide)
  unfold settleOne
  split
  · refine (((changes_setQueue s n _).mono (by decide)).andThen (changes_release _ _)).andThen (counted _ _) (fun _ h => h)
  · unfold State.retryFrame
    dsimp only
    have raised := counted s { s.nbr n with counters := { (s.nbr n).counters with
      retries := bump 65535 (s.nbr n).counters.retries } }
    refine raised.andThen (qs := settlePieces) ?_
    split
    · exact .refl _ _
    · split
      · exact ((changes_setQueue _ n _).mono (by decide)).andThen (changes_discard _ _ _)
      · exact (changes_setFrame _ _ _).mono (by decide)

theorem changes_settle (n : NbrIdx) (set : List (Handle × Seq)) (list : List Seq) :
    Changes settlePieces s (s.settle n set list) :=
  (changes_foldl (settleOne n list) id (fun s hq => changes_settleOne s n list hq) set s).andThen (changes_setNbr _ _ _)

end

end Sys2Proof.Machine
end

section
/-! The moves of the link monitor and of frame traffic: every observation, beacon, boundary, arrival and FRAME SEND is a run of
them, so that a law need be checked once for each kind of move. -/

namespace Sys2Proof.Machine

open Sys2Proof

/-! ### Neighbour records -/

/-- Accumulator and sector margins lie in their ranges (R4, R6). -/
def Nbr.Ranged (r : Nbr) : Prop :=
  (∀ a, r.acc = some a → -2048 ≤ a ∧ a ≤ 6128) ∧ ∀ sec x, r.margins.look sec = some x → -128 ≤ x ∧ x ≤ 383

/-- The receive window obeys its law (R82). -/
def Nbr.Windowed (r : Nbr) : Prop :=
  match r.high with
  | none => r.seen = []
  | some h => h ∈ r.seen ∧ (∀ q ∈ r.seen, behind h q ≤ 31) ∧ r.seen.Pairwise fun a b => behind h b < behind h a

/-- Runs, age and counters lie within their widths (R16, R33). -/
def Nbr.Counted (r : Nbr) : Prop :=
  r.fade ≤ 255 ∧ r.good ≤ 255 ∧ r.miss ≤ 255 ∧ r.age ≤ 255 ∧ r.counters.sent ≤ 65535 ∧ r.counters.acked ≤ 65535
    ∧ r.counters.retries ≤ 65535 ∧ r.counters.received ≤ 65535 ∧ r.counters.duplicates ≤ 65535 ∧ r.counters.stale ≤ 65535
    ∧ r.counters.refused ≤ 65535

/-- Sector, epoch and accumulator are present, as UP, WEAK and HELD demand (R16). -/
def Nbr.Placed (r : Nbr) : Prop := r.sector ≠ none ∧ r.epoch ≠ none ∧ r.acc ≠ none

/-- A new record for an enrolled neighbour: the state and the node id stay, and so does every law of the single record. -/
structure Nbr.Revised (a b : Nbr) : Prop where
  enrolled : a.state ≠ .vacant
  state : b.state = a.state
  nodeId : b.nodeId = a.nodeId
  placed : a.Placed → b.Placed
  ranged : a.Ranged → b.Ranged
  windowed : a.Windowed → b.Windowed
  counted : a.Counted → b.Counted

theorem Nbr.Revised.trans {a b c : Nbr} (h : a.Revised b) (k : b.Revised c) : a.Revised c where
  enrolled := h.enrolled
  state := k.state.trans h.state
  nodeId := k.nodeId.trans h.nodeId
  placed := k.placed ∘ h.placed
  ranged := k.ranged ∘ h.ranged
  windowed := k.windowed ∘ h.windowed
  counted := k.counted ∘ h.counted

theorem LinkState.ne_vacant_of_heard {st : LinkState} (h : st.heard = true) : st ≠ .vacant := by
  rintro rfl
  cases h

theorem sampleOf_mem (c floor : Code) : -128 ≤ sampleOf c floor ∧ sampleOf c floor ≤ 383 := by
  unfold sampleOf clampInt
  split
  · omega
  · split <;> omega

theorem smooth_mem {k : Nat} {acc : Option Int} {mark : Bool} {x : Int} (hacc : ∀ a, acc = some a → -2048 ≤ a ∧ a ≤ 6128)
    (hx : -128 ≤ x ∧ x ≤ 383) : -2048 ≤ smooth k acc mark x ∧ smooth k acc mark x ≤ 6128 := by
  match acc, mark with
  | none, mark =>
    rw [smooth_none]
    omega
  | some a, true =>
    rw [smooth_reseed]
    omega
  | some a, false =>
    rw [smooth_some]
    exact add_floorDiv_mem (by positivity) (hacc a rfl) (by omega)

theorem runAfter_le (up : Bool) (run : Nat) : runAfter up run ≤ 255 := by
  cases up
  · exact Nat.zero_le _
  · exact bump_le 255 run

theorem Nbr.revised_sample {r : Nbr} (h : r.state.heard = true) (c : LinkSettings) {x : Int} (hx : -128 ≤ x ∧ x ≤ 383) :
    r.Revised (r.sample c x) where
  enrolled := LinkState.ne_vacant_of_heard h
  state := rfl
  nodeId := rfl
  placed := fun ⟨sec, ep, _⟩ => ⟨sec, ep, by simp⟩
  ranged := fun ⟨acc, margins⟩ => ⟨fun a e => by
    obtain rfl := Option.some.inj e
    exact smooth_mem acc hx, margins⟩
  windowed := id
  counted := fun ⟨_, _, _, age, counters⟩ => ⟨runAfter_le _ _, runAfter_le _ _, Nat.zero_le _, age, counters⟩

theorem Nbr.revised_missed {r : Nbr} (h : r.state.heard = true) : r.Revised r.missed where
  enrolled := LinkState.ne_vacant_of_heard h
  state := rfl
  nodeId := rfl
  placed := id
  ranged := id
  windowed := id
  counted := fun ⟨_, _, _, age, counters⟩ => ⟨bump_le _ _, Nat.zero_le _, bump_le _ _, age, counters⟩

theorem Nbr.revised_recordMargin {r : Nbr} (h : r.state ≠ .vacant) (sec : Sector) {x : Int} (hx : -128 ≤ x ∧ x ≤ 383) :
    r.Revised (r.recordMargin sec x) where
  enrolled := h
  state := rfl
  nodeId := rfl
  placed := id
  ranged := fun ⟨acc, margins⟩ => ⟨acc, fun sec' y e => by
    have e : (r.margins.put sec (some x)).look sec' = some y := e
    rw [Tab.look_put] at e
    split at e
    · obtain rfl := Option.some.inj e
      exact hx
    · exact margins sec' y e⟩
  windowed := id
  counted := id

theorem Nbr.revised_hint {r : Nbr} (h : r.state ≠ .vacant) (sec : Sector) : r.Revised { r with sector := some sec } where
  enrolled := h
  state := rfl
  nodeId := rfl
  placed := fun ⟨_, ep, acc⟩ => ⟨by simp, ep, acc⟩
  ranged := id
  windowed := id
  counted := id

/-- A direct load of a sample, with its sector and an epoch (R5, R24, R25, R27). -/
theorem Nbr.revised_load {r : Nbr} (h : r.state ≠ .vacant) (sec : Sector) {epoch : Option Byte} {x : Int}
    (he : r.epoch ≠ none → epoch ≠ none) (hx : -128 ≤ x ∧ x ≤ 383) :
    r.Revised { r.load x with sector := some sec, epoch := epoch } where
  enrolled := h
  state := rfl
  nodeId := rfl
  placed := fun ⟨_, ep, _⟩ => ⟨by simp, he ep, by simp [Nbr.load]⟩
  ranged := fun ⟨_, margins⟩ => ⟨fun a e => by
    obtain rfl := Option.some.inj e
    omega, margins⟩
  windowed := id
  counted := id

theorem Nbr.revised_clearWindow {r : Nbr} (h : r.state ≠ .vacant) : r.Revised r.clearWindow where
  enrolled := h
  state := rfl
  nodeId := rfl
  placed := id
  ranged := id
  windowed := fun _ => rfl
  counted := id

theorem Nbr.revised_clearRuns {r : Nbr} (h : r.state ≠ .vacant) : r.Revised r.clearRuns where
  enrolled := h
  state := rfl
  nodeId := rfl
  placed := id
  ranged := id
  windowed := id
  counted := fun ⟨_, _, _, age, counters⟩ => ⟨Nat.zero_le _, Nat.zero_le _, Nat.zero_le _, age, counters⟩

theorem Nbr.revised_reseed {r : Nbr} (h : r.state ≠ .vacant) : r.Revised { r with reseed := true } where
  enrolled := h
  state := rfl
  nodeId := rfl
  placed := id
  ranged := id
  windowed := id
  counted := id

theorem Nbr.windowed_accept {r : Nbr} (h : r.Windowed) (q : Seq) : (r.accept q).Windowed := by
  cases hr : r.high with
  | none =>
    rw [Nbr.accept_of_high_none hr]
    exact ⟨List.mem_singleton.2 rfl, fun x hx => by rw [List.mem_singleton.1 hx, behind_self]; omega, List.pairwise_singleton _ _⟩
  | some top =>
    rw [Nbr.accept_of_high_some hr]
    simp only [Nbr.Windowed, hr] at h
    obtain ⟨top_seen, -, -⟩ := h
    refine ⟨mem_windowOf.2 ⟨?_, by rw [behind_self]; omega⟩, fun x hx => (mem_windowOf.1 hx).2, pairwise_windowOf _ _⟩
    split
    · exact List.mem_cons_of_mem _ top_seen
    · exact List.mem_cons_self

/-- An acceptance moves the window alone. -/
theorem Nbr.accept_spec (r : Nbr) (q : Seq) : ∃ high seen, r.accept q = { r with high := high, seen := seen } := by
  cases hr : r.high with
  | none => exact ⟨_, _, Nbr.accept_of_high_none hr⟩
  | some h => exact ⟨_, _, Nbr.accept_of_high_some hr⟩

theorem Nbr.revised_accept {r : Nbr} (h : r.state ≠ .vacant) (q : Seq) : r.Revised (r.accept q) := by
  obtain ⟨high, seen, e⟩ := r.accept_spec q
  refine ⟨h, by rw [e], by rw [e], fun p => ?_, fun p => ?_, fun w => r.windowed_accept w q, fun p => ?_⟩ <;>
  · rw [e]
    exact p

/-! ### Moves of the link monitor -/

/-- One move of the link monitor, or the scheduler's measurement of a beacon. A change of state leads to LOST or to a state that
is heard, and into the latter only with sector, epoch and accumulator. -/
inductive Move : State → State → Prop
  | revise {s : State} (n : NbrIdx) {r : Nbr} (h : (s.nbr n).Revised r) : Move s (s.setNbr n r)
  | change {s : State} (n : NbrIdx) (new : LinkState) (cause : LinkCause) (used : (s.nbr n).state ≠ .vacant)
      (target : new = .lost ∨ new.heard = true) (placed : (s.nbr n).state.heard = true ∨ new = .lost ∨ (s.nbr n).Placed) :
      Move s (s.changeState n new cause)
  | tell {s : State} (n : NbrIdx) (cause : LinkCause) : Move s (s.postLink n cause none)
  | grow {s : State} : Move s { s with mon := { s.mon with nbrs := s.mon.nbrs.each Nbr.grow } }
  | measure {s : State} (b : HeardBeacon) : Move s (s.measure b)

/-- A run of moves. -/
abbrev Moves : State → State → Prop := Relation.ReflTransGen Move

theorem Moves.one {s t : State} (h : Move s t) : Moves s t := .single h

theorem Nbr.transition_target {r : Nbr} {c : LinkSettings} {new : LinkState} {cause : LinkCause}
    (h : r.transition c = some (new, cause)) : new = .lost ∨ new.heard = true := by
  unfold Nbr.transition at h
  split at h
  · cases h
    exact .inl rfl
  · split at h
    · cases h
      exact .inr rfl
    · split at h
      · cases h
        exact .inr rfl
      · cases h

theorem State.observe_discarded {s : State} {n : NbrIdx} (h : (s.nbr n).state.heard = false) (sample : Option Int) :
    s.observe n sample = s := by
  simp [State.observe, h]

/-- The record after an observation, before any transition (R19, R20). -/
def Nbr.observed (r : Nbr) (c : LinkSettings) : Option Int → Nbr
  | some x => r.sample c x
  | none => r.missed

theorem State.observe_applied {s : State} {n : NbrIdx} (h : (s.nbr n).state.heard = true) (sample : Option Int) :
    s.observe n sample =
      match ((s.nbr n).observed s.mon.settings sample).transition s.mon.settings with
      | some (new, cause) => (s.setNbr n ((s.nbr n).observed s.mon.settings sample)).changeState n new cause
      | none => s.setNbr n ((s.nbr n).observed s.mon.settings sample) := by
  cases sample <;> simp [State.observe, h, Nbr.observed] <;> rfl

theorem Nbr.revised_observed {r : Nbr} (h : r.state.heard = true) (c : LinkSettings) {sample : Option Int}
    (hx : ∀ x, sample = some x → -128 ≤ x ∧ x ≤ 383) : r.Revised (r.observed c sample) := by
  cases sample with
  | none => exact Nbr.revised_missed h
  | some x => exact Nbr.revised_sample h c (hx x rfl)

theorem moves_observe (s : State) (n : NbrIdx) {sample : Option Int} (hx : ∀ x, sample = some x → -128 ≤ x ∧ x ≤ 383) :
    Moves s (s.observe n sample) := by
  cases h : (s.nbr n).state.heard with
  | false =>
    rw [State.observe_discarded h]
  | true =>
    rw [State.observe_applied h]
    have revised := Nbr.revised_observed h s.mon.settings hx
    have stored := Moves.one (Move.revise n revised)
    split
    · next new cause ht =>
      have still : (((s.setNbr n ((s.nbr n).observed s.mon.settings sample))).nbr n).state.heard = true := by
        rw [State.nbr_setNbr_self, revised.state, h]
      exact stored.tail (.change n new cause (LinkState.ne_vacant_of_heard still) (Nbr.transition_target ht) (.inl still))
    · exact stored

/-- A record revised and then a change of its state. -/
theorem moves_revise_change {s : State} {n : NbrIdx} {r : Nbr} {new : LinkState} {cause : LinkCause}
    (h : (s.nbr n).Revised r) (heard : new.heard = true) (placed : (s.nbr n).state.heard = true ∨ r.Placed) :
    Moves s ((s.setNbr n r).changeState n new cause) := by
  refine (Moves.one (.revise n h)).tail (.change n new cause ?_ (.inr heard) ?_)
  · rw [State.nbr_setNbr_self, h.state]
    exact h.enrolled
  · rw [State.nbr_setNbr_self, h.state]
    exact placed.imp_right .inr

theorem Nbr.placed_load (r : Nbr) (x : Int) (sec : Sector) (epoch : Byte) :
    Nbr.Placed { r.load x with sector := some sec, epoch := some epoch } := ⟨by simp, by simp, by simp [Nbr.load]⟩

theorem moves_acquire {s : State} {n : NbrIdx} (h : (s.nbr n).state ≠ .vacant) (sec : Sector) (epoch : Byte) {x : Int}
    (hx : -128 ≤ x ∧ x ≤ 383) : Moves s (s.acquire n sec epoch x) := by
  have loaded := Nbr.revised_load (epoch := some epoch) h sec (fun _ => by simp) hx
  have placed := (s.nbr n).placed_load x sec epoch
  unfold State.acquire
  dsimp only
  split
  · split
    · exact .single (.revise n (Nbr.revised_hint h sec))
    · exact .refl
  · split
    · exact moves_revise_change loaded rfl (.inr placed)
    · split
      · exact moves_revise_change loaded rfl (.inr placed)
      · exact moves_revise_change (loaded.trans (Nbr.revised_clearWindow h)) rfl (.inr placed)

theorem moves_epochChange {s : State} {n : NbrIdx} (h : (s.nbr n).state.heard = true) (sec : Sector) (epoch : Byte) {x : Int}
    (hx : -128 ≤ x ∧ x ≤ 383) : Moves s (s.epochChange n sec epoch x) := by
  have used := LinkState.ne_vacant_of_heard h
  have restarted : (s.nbr n).Revised
      { ((s.nbr n).load x).clearWindow.clearRuns with sector := some sec, epoch := some epoch } :=
    ((Nbr.revised_load (epoch := some epoch) used sec (fun _ => by simp) hx).trans (Nbr.revised_clearWindow used)).trans
      (Nbr.revised_clearRuns used)
  unfold State.epochChange
  dsimp only
  split
  · exact (Moves.one (.revise n restarted)).tail (.tell n .epoch)
  · exact moves_revise_change restarted rfl (.inl h)

theorem moves_handover {s : State} {n : NbrIdx} (h : (s.nbr n).state ≠ .vacant) (sec : Sector) {x : Int}
    (hx : -128 ≤ x ∧ x ≤ 383) : Moves s (s.handover n sec x) := by
  have loaded : (s.nbr n).Revised { ((s.nbr n).load x).clearRuns with sector := some sec } :=
    (Nbr.revised_load (epoch := (s.nbr n).epoch) h sec id hx).trans (Nbr.revised_clearRuns h)
  unfold State.handover
  dsimp only
  split
  · exact .refl
  · split
    · exact (Moves.one (.revise n loaded)).tail (.tell n .handover)
    · exact .refl

/-- The record that a node id names is enrolled. -/
theorem State.nbrWithId_some {s : State} {id : Nat} {n : NbrIdx} (h : s.nbrWithId id = some n) :
    (s.nbr n).state ≠ .vacant ∧ (s.nbr n).nodeId = some id := by
  have found := (Tab.lowest_eq_some.1 h).1
  simpa [State.nbr] using found

theorem moves_takeBeacon (s : State) (sec : Sector) (b : HeardBeacon) : Moves s (s.takeBeacon sec b) := by
  unfold State.takeBeacon
  have hx := sampleOf_mem b.code (s.mon.floors.look sec)
  dsimp only
  split
  · exact .refl
  · next n found =>
    have margin := Nbr.revised_recordMargin (State.nbrWithId_some found).1 sec hx
    have stored : Moves s (s.modNbr n fun r => r.recordMargin sec (sampleOf b.code (s.mon.floors.look sec))) :=
      .single (.revise n margin)
    have used : ((s.modNbr n fun r => r.recordMargin sec (sampleOf b.code (s.mon.floors.look sec))).nbr n).state ≠ .vacant := by
      rw [State.nbr_modNbr_self]
      exact margin.enrolled
    refine stored.trans ?_
    split
    · exact moves_acquire used sec b.epoch hx
    · next heard =>
      rw [Bool.not_eq_true', Bool.not_eq_false] at heard
      split
      · exact moves_epochChange heard sec b.epoch hx
      · split
        · exact moves_observe _ n fun y e => by
            obtain rfl := Option.some.inj e
            exact hx
        · exact moves_handover used sec hx

theorem moves_handOne (sec : Sector) (acc : State × List ReportBeacon) (b : HeardBeacon) :
    Moves acc.1 (handOne sec acc b).1 := (moves_takeBeacon acc.1 sec b).tail (.measure b)

/-- A fold whose steps are runs of a relation is a run of it. -/
theorem reflTransGen_foldl {α σ τ : Type} {R : τ → τ → Prop} (f : σ → α → σ) (st : σ → τ)
    (one : ∀ a x, Relation.ReflTransGen R (st a) (st (f a x))) (l : List α) (a : σ) :
    Relation.ReflTransGen R (st a) (st (l.foldl f a)) := by
  induction l generalizing a with
  | nil => exact .refl
  | cons x rest ih => exact (one a x).trans (ih (f a x))

theorem moves_handOver (sec : Sector) (beacons : List HeardBeacon) (s : State) :
    Moves s (beacons.foldl (handOne sec) (s, [])).1 :=
  reflTransGen_foldl (handOne sec) Prod.fst (moves_handOne sec) beacons (s, [])

theorem moves_timeOut (s : State) (n : NbrIdx) : Moves s (timeOut s n) := by
  unfold timeOut
  split
  · next h =>
    refine .single (.change n .lost .timeout ?_ (.inl rfl) (.inr (.inl rfl)))
    rw [h.1]
    decide
  · exact .refl

theorem moves_ageSeeking (s : State) : Moves s s.ageSeeking :=
  (Moves.one .grow).trans (reflTransGen_foldl timeOut id moves_timeOut _ _)

theorem moves_rxEnd (s : State) (ctx : RxCtx) : Moves s (s.rxEnd ctx) := by
  refine moves_observe s ctx.nbr fun x e => ?_
  obtain ⟨c, -, rfl⟩ := Option.map_eq_some_iff.1 e
  exact sampleOf_mem _ _

/-- A neighbour confirmed: window cleared, reseed mark set, and HELD left for WEAK (R31). -/
theorem moves_confirm {s : State} {n : NbrIdx} (h : (s.nbr n).state = .held) :
    Moves s ((s.modNbr n fun r => { r.clearWindow with reseed := true }).changeState n .weak .confirm) := by
  have used : (s.nbr n).state ≠ .vacant := by
    rw [h]
    decide
  refine moves_revise_change ((Nbr.revised_clearWindow used).trans (Nbr.revised_reseed used)) rfl (.inl ?_)
  rw [h]
  rfl

/-! ### Moves of frame traffic -/

/-- Fields that a frame to be stored must have (R63, R74, R79). -/
def Storable (dest : BitVec 12) (payload : List Byte) : Prop :=
  1 ≤ payload.length ∧ payload.length ≤ 1440 ∧ dest ≠ 0 ∧ dest ≠ 4095

/-- One move of a frame's way through the part: a context or a record changed, a counter raised, a lookup, or the frame stored in
the delivery queue or in the queue of a next hop that a LIVE entry names. -/
inductive Traffic : State → State → Prop
  | hear {s : State} {old : RxCtx} (ctx : RxCtx) (open_ : s.radio.rx = some old) :
      Traffic s (s.setRadio { s.radio with rx := some ctx })
  | failed {s : State} : Traffic s s.countCheckFail
  | foreign {s : State} : Traffic s s.countForeign
  | revise {s : State} (n : NbrIdx) {r : Nbr} (h : (s.nbr n).Revised r) : Traffic s (s.setNbr n r)
  | look {s : State} (q : Key) : Traffic s (s.frameLookup q).2
  | drop {s : State} (why : Reason) : Traffic s (s.countDiscard why)
  | deliver {s : State} {h : Handle} (ing : Ingress) {dest : BitVec 12} (cls : BitVec 3) (hops : BitVec 4) {payload : List Byte}
      (unrouted : Bool) (room : s.store.allocHandle payload.length = some h) (fit : Storable dest payload) :
      Traffic s ((s.allocate h ing dest cls hops payload).appendDelivery h unrouted)
  | relay {s : State} {h : Handle} {i : EntryIdx} {r : Route} {m : NbrIdx} (ing : Ingress) {dest : BitVec 12} (cls : BitVec 3)
      {hops : BitVec 4} {payload : List Byte} (room : s.store.allocHandle payload.length = some h)
      (fit : Storable dest payload) (more : hops ≠ 0) (queueRoom : s.queueHasRoom m = true)
      (entry : s.entry i = some r) (live : r.state = .live) (action : r.action = .forward m) :
      Traffic s ((s.allocate h ing dest cls hops payload).appendQueue m h)

/-- A run of traffic. -/
abbrev Travels : State → State → Prop := Relation.ReflTransGen Traffic

theorem Travels.one {s t : State} (h : Traffic s t) : Travels s t := .single h

/-- A neighbour's counters changed within their widths. -/
theorem travels_tally {s : State} {n : NbrIdx} (used : (s.nbr n).state ≠ .vacant) {f : NbrCounters → NbrCounters}
    (fits : (s.nbr n).Counted → Nbr.Counted { s.nbr n with counters := f (s.nbr n).counters }) :
    Travels s (s.modCounters n f) :=
  .single (.revise (r := { s.nbr n with counters := f (s.nbr n).counters }) n
    { enrolled := used, state := rfl, nodeId := rfl, placed := id, ranged := id, windowed := id, counted := fits })

/-- After a lookup the winner's entry is still LIVE with its action. -/
theorem State.frameLookup_winner {s : State} {q : Key} {i : EntryIdx} {r : Route} (h : (s.frameLookup q).1 = some (i, r)) :
    (s.frameLookup q).2.entry i = some r.hit ∧ r.state = .live := by
  obtain ⟨none, -⟩ | ⟨j, r', -, -, won, next⟩ := s.frameLookup_spec q
  · rw [none] at h
    cases h
  · rw [won] at h
    obtain ⟨rfl, rfl⟩ := Prod.mk.inj (Option.some.inj h)
    refine ⟨?_, (State.frameLookup_live won).2.1⟩
    rw [next, State.entry_setEntry, if_pos rfl]

theorem State.frameLookup_store (s : State) (q : Key) : (s.frameLookup q).2.store = s.store := by
  obtain ⟨-, e⟩ | ⟨i, r, -, -, -, e⟩ := s.frameLookup_spec q <;> rw [e]
  rfl

theorem State.frameLookup_mon (s : State) (q : Key) : (s.frameLookup q).2.mon = s.mon := by
  obtain ⟨-, e⟩ | ⟨i, r, -, -, -, e⟩ := s.frameLookup_spec q <;> rw [e]
  rfl

theorem travels_dispose {s : State} (n : NbrIdx) {h : Handle} {d : DataFrame}
    (room : s.store.allocHandle d.payload.length = some h) (fit : Storable d.dest d.payload) : Travels s (s.dispose n h d) := by
  unfold State.dispose
  dsimp only
  split
  · exact .single (.deliver _ _ _ _ room fit)
  · refine (Travels.one (.look { dest := d.dest, cls := d.cls, ing := .nbr n })).trans ?_
    have room' : (s.frameLookup { dest := d.dest, cls := d.cls, ing := .nbr n }).2.store.allocHandle d.payload.length
        = some h := by rw [State.frameLookup_store, room]
    split
    · exact .single (.deliver _ _ _ _ room' fit)
    · next i r won =>
      obtain ⟨entry, live⟩ := State.frameLookup_winner won
      split
      · exact .single (.drop _)
      · exact .single (.deliver _ _ _ _ room' fit)
      · next m action =>
        split
        · exact .single (.drop _)
        · split
          · exact .single (.drop _)
          · next more =>
            split
            · next queueRoom =>
              refine .single (.relay _ _ room' fit ?_ queueRoom entry live action)
              intro zero
              have := congrArg BitVec.toNat zero
              have lt := d.hops.isLt
              rw [BitVec.toNat_sub] at this
              simp at this
              omega
            · exact .single (.drop _)

theorem travels_judgeData {s : State} {ctx old : RxCtx} {d : DataFrame} (used : (s.nbr ctx.nbr).state ≠ .vacant)
    (open_ : s.radio.rx = some old) (fit : Storable d.dest d.payload) : Travels s (s.judgeData ctx d) := by
  have listed : Travels s (s.acknowledge ctx d.seq) := .single (.hear _ open_)
  unfold State.judgeData
  dsimp only
  split
  · refine listed.trans (travels_tally (s := s.acknowledge ctx d.seq) used ?_)
    rintro ⟨a, b, c, d, e, f, g, h, -, j, k⟩
    exact ⟨a, b, c, d, e, f, g, h, bump_le _ _, j, k⟩
  · refine listed.trans (travels_tally (s := s.acknowledge ctx d.seq) used ?_)
    rintro ⟨a, b, c, d, e, f, g, h, i, -, k⟩
    exact ⟨a, b, c, d, e, f, g, h, i, bump_le _ _, k⟩
  · split
    · refine travels_tally used ?_
      rintro ⟨a, b, c, d, e, f, g, h, i, j, -⟩
      exact ⟨a, b, c, d, e, f, g, h, i, j, bump_le _ _⟩
    · next h room =>
      have accepted := Nbr.revised_accept used d.seq
      have kept : ((s.modNbr ctx.nbr fun r => r.accept d.seq).nbr ctx.nbr).state ≠ .vacant := by
        rw [State.nbr_modNbr_self, accepted.state]
        exact used
      have marked : Travels s (s.modNbr ctx.nbr fun r => r.accept d.seq) := .single (.revise _ accepted)
      have both : Travels s ((s.modNbr ctx.nbr fun r => r.accept d.seq).acknowledge ctx d.seq) := marked.tail (.hear _ open_)
      refine (both.trans (travels_tally
        (s := (s.modNbr ctx.nbr fun r => r.accept d.seq).acknowledge ctx d.seq) kept ?_)).trans
          (travels_dispose ctx.nbr room fit)
      rintro ⟨a, b, c, d, e, f, g, -, i, j, k⟩
      exact ⟨a, b, c, d, e, f, g, bump_le _ _, i, j, k⟩

/-- The covered part of a frame has the length asked for. -/
theorem covered_length {n : Nat} {bytes c : List Byte} (h : covered n bytes = some c) : c.length = n := by
  simp only [covered, Option.ite_none_right_eq_some, Option.some.injEq] at h
  obtain ⟨⟨length, -⟩, rfl⟩ := h
  exact length

theorem parseHold_ne_data {bytes : List Byte} {d : DataFrame} : parseHold bytes ≠ some (.data d) := by
  unfold parseHold
  split <;> simp

theorem parseAckset_ne_data {bytes : List Byte} {d : DataFrame} : parseAckset bytes ≠ some (.data d) := by
  unfold parseAckset
  split <;> simp

theorem parseBeacon_ne_data {bytes : List Byte} {d : DataFrame} : parseBeacon bytes ≠ some (.data d) := by
  unfold parseBeacon
  split
  · split <;> simp
  · simp

/-- A DATA frame that passes its check and form can be stored (R79). -/
theorem parseFrame_storable {bytes : List Byte} {d : DataFrame} (h : parseFrame bytes = some (.data d)) :
    Storable d.dest d.payload := by
  unfold parseFrame at h
  split at h
  · split at h
    · unfold parseData at h
      split at h
      · dsimp only at h
        split at h
        · next fit =>
          obtain ⟨c, whole, e⟩ := Option.map_eq_some_iff.1 h
          obtain ⟨low, high, dest0, dest4095⟩ := fit
          have length := covered_length whole
          cases e
          exact ⟨by simp; omega, by simp; omega, dest0, dest4095⟩
        · cases h
      · cases h
    · split at h
      · exact (parseHold_ne_data h).elim
      · split at h
        · exact (parseAckset_ne_data h).elim
        · split at h
          · exact (parseBeacon_ne_data h).elim
          · cases h
  · cases h

theorem travels_rxArrival (s : State) (bytes : List Byte) (code : Code) : Travels s (s.rxArrival bytes code) := by
  unfold State.rxArrival
  split
  · next ctx o open_ slot =>
    split
    · split
      · exact .single .failed
      · next f parsed =>
        unfold State.soundFrame
        dsimp only
        split
        · split
          · exact .single (.hear _ open_)
          · exact .single .foreign
        · next d =>
          split
          · refine (Travels.one (.hear (ctx.hear code) open_)).trans ?_
            unfold State.validData
            split
            · next held =>
              refine travels_tally (ne_of_eq_of_ne held (by decide)) ?_
              rintro ⟨a, b, c, d, e, f, g, h, i, j, -⟩
              exact ⟨a, b, c, d, e, f, g, h, i, j, bump_le _ _⟩
            · next up => exact travels_judgeData (by rw [up]; decide) rfl (parseFrame_storable parsed)
            · next weak => exact travels_judgeData (by rw [weak]; decide) rfl (parseFrame_storable parsed)
            all_goals exact .refl
          · exact .single .foreign
        · exact .single .foreign
        · exact .single .foreign
    · exact .refl
  · exact .refl

/-- FRAME SEND past its checks is traffic, and then its reply alone (R75). -/
theorem travels_sendFrame (s : State) (dest : BitVec 12) (cls : BitVec 3) {hops : BitVec 4} {payload : List Byte}
    (fit : Storable dest payload) (more : hops ≠ 0) :
    ∃ t code body, Travels s t ∧ s.sendFrame dest cls hops payload = t.reply Kind.frameSend code body := by
  unfold State.sendFrame
  dsimp only
  have looked := Travels.one (.look (s := s) { dest := dest, cls := cls, ing := .host })
  split
  · exact ⟨_, _, _, looked, rfl⟩
  · next i r won =>
    obtain ⟨entry, live⟩ := State.frameLookup_winner won
    split
    · exact ⟨_, _, _, looked.tail (.drop _), rfl⟩
    · exact ⟨_, _, _, looked, rfl⟩
    · next m action =>
      split
      · next queueRoom =>
        split
        · exact ⟨_, _, _, looked, rfl⟩
        · next h room => exact ⟨_, _, _, looked.tail (.relay _ _ room fit more queueRoom entry live action), rfl⟩
      · exact ⟨_, _, _, looked, rfl⟩

end Sys2Proof.Machine
end

section
/-! The footprint of every command: the pieces of the state that it can change. -/

namespace Sys2Proof.Machine

open Sys2Proof

/-! ### Footprints of moves -/

/-- What the moves of the link monitor can change. -/
def movePieces : List Piece := linkPieces ++ [.holds, .pendingD, .lastD]

/-- What traffic can change. -/
def trafficPieces : List Piece :=
  [.nbrs, .entries, .frames, .pool, .mem, .picks, .queues, .delivery, .discards, .checkFail, .foreign, .radio]

theorem changes_move {s t : State} (h : Move s t) : Changes movePieces s t := by
  cases h with
  | revise n _ => exact (changes_setNbr s n _).mono (by decide)
  | change n new cause _ _ _ => exact (changes_changeState s n new cause).mono (by decide)
  | tell n cause => exact (changes_post s _ _ _).mono (by decide)
  | grow => exact fun p hp => by cases p <;> cases hp <;> rfl
  | measure b => exact (changes_measure s b).mono (by decide)

theorem changes_traffic {s t : State} (h : Traffic s t) : Changes trafficPieces s t := by
  cases h with
  | hear ctx _ => exact (changes_setRadio s _).mono (by decide)
  | failed => exact fun p hp => by cases p <;> cases hp <;> rfl
  | foreign => exact fun p hp => by cases p <;> cases hp <;> rfl
  | revise n _ => exact (changes_setNbr s n _).mono (by decide)
  | look q => exact (changes_frameLookup s q).mono (by decide)
  | drop why => exact (changes_countDiscard s why).mono (by decide)
  | deliver ing cls hops unrouted _ _ =>
    exact ((changes_allocate s _ ing _ cls hops _).mono (by decide)).andThen (changes_appendDelivery _ _ unrouted)
  | relay ing cls _ _ _ _ _ _ _ =>
    exact ((changes_allocate s _ ing _ cls _ _).mono (by decide)).andThen (changes_appendQueue _ _ _)

/-- A run changes at most what each of its moves changes. -/
theorem changes_run {R : State → State → Prop} {ps : List Piece} (one : ∀ {s t}, R s t → Changes ps s t) {s t : State}
    (h : Relation.ReflTransGen R s t) : Changes ps s t := by
  induction h with
  | refl => exact .refl _ _
  | tail _ last ih => exact ih.andThen (one last) fun _ m => m

theorem changes_dwellEnd (s : State) (d : Dwell) : Changes (.floors :: movePieces) s (s.dwellEnd d) := by
  have handed := ((changes_writeFloor s d.sector d.quiet).mono (qs := .floors :: movePieces) (by decide)).andThen
    (changes_run changes_move (moves_handOver d.sector d.beacons (s.writeFloor d.sector d.quiet)))
  exact (handed.andThen (changes_post _ .scanner _ none)).andThen (changes_setScan_state _ _)

/-! ### Footprints of the requests' owners -/

section
variable (s : State)

theorem changes_malformed (kind : Option Byte) (len : Option Half) (taken : Half) :
    Changes [.reply] s (s.malformed kind len taken) := by
  unfold State.malformed
  split
  · exact fun p hp => by cases p <;> cases hp <;> rfl
  · exact .refl _ s

theorem changes_linkSettings (wr : Byte) (c : CarriedSettings) : Changes [.reply, .settings] s (s.linkSettings wr c) := by
  unfold State.linkSettings
  split
  · exact (changes_reply s _ _ _).mono (by decide)
  · split
    · exact fun p hp => by cases p <;> cases hp <;> rfl
    · exact (changes_reply s _ _ _).mono (by decide)
  · exact (changes_reply s _ _ _).mono (by decide)

theorem changes_enrol (index : Byte) (nodeId : Half) (hint cap : Byte) :
    Changes [.reply, .nbrs, .queues, .phase, .notices] s (s.enrol index nodeId hint cap) := by
  have refused := fun c b => (changes_reply s Kind.neighbourEnrol c b).mono
    (qs := [.reply, .nbrs, .queues, .phase, .notices]) (by decide)
  unfold State.enrol
  split
  · split
    · split
      · exact fun p hp => by cases p <;> cases hp <;> rfl
      · exact refused _ _
    · exact refused _ _
  · exact refused _ _

/-- What the retire of a neighbour can change. -/
def retirePieces : List Piece :=
  [.reply, .nbrs, .entries, .lastMatch, .frames, .pool, .discards, .queues, .radio, .holds, .sync, .pendingD, .lastD,
    .phase, .notices]

/-- What a change of the sync neighbour changes. -/
def syncPieces : List Piece := [.holds, .sync, .pendingD, .lastD, .phase, .notices]

theorem changes_setSync (k : Option NbrIdx) : Changes syncPieces s (s.setSync k) := by
  unfold State.setSync
  dsimp only
  split
  · exact fun p hp => by cases p <;> cases hp <;> rfl
  · exact fun p hp => by cases p <;> cases hp <;> rfl

theorem changes_freeEntries (freed : Entry → Bool) : Changes [.entries, .lastMatch] s (s.freeEntries freed) :=
  fun p hp => by cases p <;> cases hp <;> rfl

theorem changes_discardQueue (n : NbrIdx) : Changes [.frames, .pool, .discards, .queues] s (s.discardQueue n) :=
  ((changes_foldl (fun s h => s.discard .retired h) id (fun s h => changes_discard s .retired h) (s.queue n) s).mono
    (by decide)).andThen (changes_setQueue _ n [])

theorem changes_retire (n : NbrIdx) : Changes retirePieces s (s.retire n) := by
  unfold State.retire
  dsimp only
  have freed := (changes_freeEntries s (hopsTo n)).mono (qs := retirePieces) (by decide)
  have emptied := (freed.andThen (changes_discardQueue _ n)).andThen
    (changes_setRadio _ ((s.freeEntries (hopsTo n)).radio.retire n))
  split
  · exact ((emptied.andThen (changes_setSync _ none)).andThen (changes_setNbr _ n Nbr.vacant)).andThen
      (changes_post _ (.link n) _ none)
  · exact (emptied.andThen (changes_setNbr _ n Nbr.vacant)).andThen (changes_post _ (.link n) _ none)

theorem changes_retireRequest (index : Byte) : Changes retirePieces s (s.retireRequest index) := by
  unfold State.retireRequest
  split
  · exact (changes_reply s _ _ _).mono (by decide)
  · split
    · exact (changes_reply s _ _ _).mono (by decide)
    · exact (changes_retire s _).andThen (changes_reply _ _ _ _)

theorem changes_confirm (index : Byte) : Changes (.reply :: linkPieces) s (s.confirm index) := by
  unfold State.confirm
  split
  · exact (changes_reply s _ _ _).mono (by decide)
  · next n _ =>
    split
    · exact (((changes_setNbr s n _).mono (by decide)).andThen (changes_changeState _ n .weak .confirm)).andThen
        (changes_reply _ _ _ _)
    · exact (changes_reply s _ _ _).mono (by decide)

theorem changes_query (index clear : Byte) : Changes [.reply, .nbrs] s (s.query index clear) := by
  unfold State.query
  split
  · next n c _ _ =>
    cases c
    · exact (changes_reply s _ _ _).mono (by decide)
    · exact fun p hp => by cases p <;> cases hp <;> rfl
  · exact (changes_reply s _ _ _).mono (by decide)

theorem changes_search (k : Byte) (q : Entry → Bool) : Changes [.reply, .lastMatch] s (s.search k q) := by
  unfold State.search
  split
  · exact fun p hp => by cases p <;> cases hp <;> rfl
  · exact fun p hp => by cases p <;> cases hp <;> rfl

theorem changes_lookupRequest (key : CarriedKey) : Changes [.reply, .lastMatch] s (s.lookupRequest key) := by
  unfold State.lookupRequest
  split
  · exact (changes_reply s _ _ _).mono (by decide)
  · exact changes_search s _ _

theorem changes_findFreeRequest (any : Byte) : Changes [.reply, .lastMatch] s (s.findFreeRequest any) := by
  unfold State.findFreeRequest
  split
  · exact (changes_reply s _ _ _).mono (by decide)
  · exact changes_search s _ _

theorem changes_findRequest (st any : Byte) (key : CarriedKey) : Changes [.reply, .lastMatch] s (s.findRequest st any key) := by
  unfold State.findRequest
  split
  · exact changes_findFreeRequest s any
  · exact changes_search s _ _
  · split
    · exact changes_search s _ _
    · exact (changes_reply s _ _ _).mono (by decide)
  · exact (changes_reply s _ _ _).mono (by decide)

theorem changes_storeRoute (k : Byte) (i : EntryIdx) (w : WantedEntry) :
    Changes [.reply, .entries] s (s.storeRoute k i w) := fun p hp => by cases p <;> cases hp <;> rfl

theorem changes_entryWrite (index : Half) (e : CarriedEntry) : Changes [.reply, .entries] s (s.entryWrite index e) := by
  unfold State.entryWrite
  split
  · exact (changes_reply s _ _ _).mono (by decide)
  · split
    · exact (changes_reply s _ _ _).mono (by decide)
    · split
      · exact changes_storeRoute s _ _ _
      · exact (changes_reply s _ _ _).mono (by decide)

theorem changes_entryPlace (e : CarriedEntry) : Changes [.reply, .entries] s (s.entryPlace e) := by
  unfold State.entryPlace
  split
  · exact (changes_reply s _ _ _).mono (by decide)
  · split
    · split
      · exact (changes_reply s _ _ _).mono (by decide)
      · exact changes_storeRoute s _ _ _
    · exact (changes_reply s _ _ _).mono (by decide)

theorem changes_entryReadRequest (index : Half) : Changes [.reply] s (s.entryReadRequest index) := by
  unfold State.entryReadRequest
  split <;> exact changes_reply s _ _ _

theorem changes_entryStateAt (i : EntryIdx) (target : TargetState) :
    Changes [.reply, .entries] s (s.entryStateAt i target) := by
  unfold State.entryStateAt
  split <;> exact fun p hp => by cases p <;> cases hp <;> rfl

theorem changes_entryStateRequest (target : Half) (st : Byte) :
    Changes [.reply, .entries] s (s.entryStateRequest target st) := by
  unfold State.entryStateRequest
  split
  · exact (changes_reply s _ _ _).mono (by decide)
  · split
    · exact (changes_reply s _ _ _).mono (by decide)
    · exact (changes_reply s _ _ _).mono (by decide)
    · exact (changes_reply s _ _ _).mono (by decide)
    · exact changes_entryStateAt s _ _

theorem changes_tableClear (scope : Byte) : Changes [.reply, .entries, .lastMatch] s (s.tableClear scope) := by
  unfold State.tableClear
  split
  · exact (changes_reply s _ _ _).mono (by decide)
  · next sc _ => cases sc <;> exact fun p hp => by cases p <;> cases hp <;> rfl

theorem changes_maskSet (profile : Byte) (ignore : Half) (c g : Byte) :
    Changes [.reply, .maskA, .maskB] s (s.maskSet profile ignore c g) := by
  unfold State.maskSet
  split
  · next p m _ _ => cases p <;> exact fun p hp => by cases p <;> cases hp <;> rfl
  · exact (changes_reply s _ _ _).mono (by decide)

theorem changes_maskSelect (profile : Byte) : Changes [.reply, .profile] s (s.maskSelect profile) := by
  unfold State.maskSelect
  split
  · exact fun p hp => by cases p <;> cases hp <;> rfl
  · exact (changes_reply s _ _ _).mono (by decide)

theorem hopsTaken_ne_zero (b : Byte) : hopsTaken b ≠ 0 := by
  unfold hopsTaken
  split
  · decide
  · split
    · decide
    · intro zero
      have back := congrArg BitVec.toNat zero
      rw [BitVec.toNat_setWidth] at back
      simp at back
      omega

/-- A destination that FRAME SEND lets pass is one that a frame can be stored for (R74). -/
theorem storable_of_legal {dest : Half} {payload : List Byte} (h : legalNodeId dest.toNat = true)
    (low : payload.length ≠ 0) (high : ¬ 1440 < payload.length) : Storable (dest.setWidth 12) payload := by
  simp only [legalNodeId, Bool.and_eq_true, decide_eq_true_eq] at h
  have value : (dest.setWidth 12).toNat = dest.toNat := by
    rw [BitVec.toNat_setWidth]
    omega
  refine ⟨by omega, by omega, fun e => ?_, fun e => ?_⟩
  · rw [e] at value
    simp at value
    omega
  · rw [e] at value
    simp at value
    omega

/-- FRAME SEND is traffic and a reply (R74, R75). -/
theorem travels_frameSend (dest : Half) (cls hops : Byte) (payload : List Byte) :
    ∃ t reply, Travels s t ∧ s.frameSend dest cls hops payload = t.setLink { t.link with reply := some reply } := by
  unfold State.frameSend
  split
  · exact ⟨s, _, .refl, rfl⟩
  · next length =>
    obtain ⟨low, high⟩ := not_or.1 length
    split
    · next legal =>
      split
      · exact ⟨s, _, .refl, rfl⟩
      · split
        · exact ⟨s, _, .refl, rfl⟩
        · rw [Bool.and_eq_true] at legal
          obtain ⟨t, code, body, run, e⟩ := travels_sendFrame s (dest.setWidth 12) (cls.setWidth 3)
            (storable_of_legal legal.1 low high) (hopsTaken_ne_zero hops)
          exact ⟨t, _, run, e⟩
    · exact ⟨s, _, .refl, rfl⟩

theorem changes_frameSend (dest : Half) (cls hops : Byte) (payload : List Byte) :
    Changes (.reply :: trafficPieces) s (s.frameSend dest cls hops payload) := by
  obtain ⟨t, reply, run, e⟩ := travels_frameSend s dest cls hops payload
  rw [e]
  refine ((changes_run changes_traffic run).mono (by decide)).andThen (qs := [.reply]) fun p hp => ?_
  cases p <;> cases hp <;> rfl

theorem changes_countersRequest (clear : Byte) :
    Changes [.reply, .discards, .checkFail, .foreign] s (s.countersRequest clear) := by
  unfold State.countersRequest
  split
  · exact (changes_reply s _ _ _).mono (by decide)
  · next c _ => cases c <;> exact fun p hp => by cases p <;> cases hp <;> rfl

theorem changes_setSlotLength (v : Half) : Changes [.reply, .slotLen] s (s.setSlotLength v) := by
  unfold State.setSlotLength
  split <;> exact fun p hp => by cases p <;> cases hp <;> rfl

theorem changes_mapWrite (map first has : Byte) (check : Half) (codes : List Half) :
    Changes [.reply, .maps] s (s.mapWrite map first has check codes) := by
  unfold State.mapWrite
  split
  · exact fun p hp => by cases p <;> cases hp <;> rfl
  · split
    · split
      · split <;> exact fun p hp => by cases p <;> cases hp <;> rfl
      · exact (changes_reply s _ _ _).mono (by decide)
    · exact (changes_reply s _ _ _).mono (by decide)

theorem changes_mapReadRequest (map : Byte) : Changes [.reply] s (s.mapReadRequest map) := by
  unfold State.mapReadRequest
  split <;> exact changes_reply s _ _ _

theorem changes_setSched_switch : Changes [.active] s (s.setSched s.sched.switch.1) := by
  unfold Scheduler.switch
  split <;> exact fun p hp => by cases p <;> cases hp <;> rfl

theorem changes_mapSwitchRequest : Changes [.reply, .staged, .active] s s.mapSwitchRequest := by
  unfold State.mapSwitchRequest
  split
  · exact fun p hp => by cases p <;> cases hp <;> rfl
  · dsimp only
    split
    · exact ((changes_setSched_switch s).mono (by decide)).andThen (changes_reply _ _ _ _)
    · exact (changes_reply s _ _ _).mono (by decide)

theorem changes_scheduleStart : Changes [.reply, .progress, .count, .pendingD] s s.scheduleStart := by
  unfold State.scheduleStart
  split
  · exact (changes_reply s _ _ _).mono (by decide)
  · dsimp only
    split <;> exact fun p hp => by cases p <;> cases hp <;> rfl

theorem changes_scheduleStop : Changes [.reply, .radio, .scanState, .progress, .pendingD] s s.scheduleStop := by
  unfold State.scheduleStop
  dsimp only
  split <;> exact fun p hp => by cases p <;> cases hp <;> rfl

theorem changes_timingSet (index : Byte) : Changes (.reply :: syncPieces) s (s.timingSet index) := by
  unfold State.timingSet
  split
  · exact (changes_reply s _ _ _).mono (by decide)
  · exact ((changes_setSync s none).mono (by decide)).andThen (changes_reply _ _ _ _)
  · split
    · exact (changes_reply s _ _ _).mono (by decide)
    · exact ((changes_setSync s _).mono (by decide)).andThen (changes_reply _ _ _ _)

theorem changes_scanSet (mode start stop b l : Byte) :
    Changes [.reply, .scanSettings, .ignored] s (s.scanSet mode start stop b l) := by
  unfold State.scanSet
  split
  · exact (changes_reply s _ _ _).mono (by decide)
  · split <;> exact fun p hp => by cases p <;> cases hp <;> rfl

theorem changes_scanStart : Changes [.reply, .radio, .scanState, .ignored] s s.scanStart :=
  ((changes_trigger s).mono (by decide)).andThen (changes_reply _ _ _ _)

theorem changes_scanHalt : Changes [.reply, .radio, .scanState] s s.scanHalt := by
  unfold State.scanHalt
  dsimp only
  split <;> exact fun p hp => by cases p <;> cases hp <;> rfl

theorem changes_identifyRequest (nodeId : Half) (epoch : Byte) :
    Changes [.reply, .identity, .holds] s (s.identifyRequest nodeId epoch) := by
  unfold State.identifyRequest
  split
  · split <;> exact fun p hp => by cases p <;> cases hp <;> rfl
  · exact (changes_reply s _ _ _).mono (by decide)

theorem changes_statusRequest : Changes [.reply, .latch] s s.statusRequest :=
  fun p hp => by cases p <;> cases hp <;> rfl

/-- What a RESTART can change: all but what a warm restart keeps. -/
def restartPieces : List Piece :=
  [.phase, .error, .staged, .reply, .notices, .nbrs, .entries, .lastMatch, .frames, .pool, .mem, .picks, .queues, .delivery,
    .discards, .checkFail, .foreign, .radio, .progress, .count, .holds, .pendingD, .lastD, .scanState, .ignored, .cause,
    .starting]

/-- What the beginning of a cold start changes. -/
def startPieces : List Piece := [.phase, .staged, .reply, .radio, .progress, .scanState, .starting]

theorem changes_beginStart (cause : StartCause) : Changes startPieces s (s.beginStart cause) :=
  fun p hp => by cases p <;> cases hp <;> rfl

theorem changes_restartRequest (form : Byte) : Changes restartPieces s (s.restartRequest form) := by
  unfold State.restartRequest
  split
  · exact (changes_beginStart s _).mono (by decide)
  · exact fun p hp => by cases p <;> cases hp <;> rfl
  · exact (changes_reply s _ _ _).mono (by decide)

/-! ### Footprints of events -/

theorem changes_endReadEarly : Changes [.phase, .error] s s.endReadEarly := by
  unfold State.endReadEarly
  split <;> exact fun p hp => by cases p <;> cases hp <;> rfl

theorem changes_setPhase (ph : Phase) : Changes [.phase] s (s.setPhase ph) :=
  fun p hp => by cases p <;> cases hp <;> rfl

theorem changes_selectFall : Changes [.phase, .error] s s.selectFall := by
  unfold State.selectFall
  split
  · exact .refl _ s
  · exact (changes_endReadEarly s).andThen (changes_setPhase _ _)

theorem changes_setError (e : Bool) : Changes [.error] s (s.setError e) :=
  fun p hp => by cases p <;> cases hp <;> rfl

theorem changes_statusSent (b : Byte) : Changes [.phase, .error] s (s.statusSent b) := by
  unfold State.statusSent
  split
  · exact (changes_setError s _).mono (by decide)
  · exact .refl _ s

theorem changes_takeWrite : Changes [.phase, .error] s s.takeWrite := by
  unfold State.takeWrite
  split
  · dsimp only
    split
    · exact (changes_statusSent s _).andThen (changes_setPhase _ _)
    · exact ((changes_statusSent s _).andThen (changes_setError _ _)).andThen (changes_setPhase _ _)
  · exact .refl _ s

theorem changes_takeInvalid : Changes [.phase, .error] s s.takeInvalid := by
  unfold State.takeInvalid
  split
  · exact ((changes_statusSent s _).andThen (changes_setError _ _)).andThen (changes_setPhase _ _)
  · exact .refl _ s

theorem changes_takeRead : Changes [.phase, .error] s s.takeRead := by
  unfold State.takeRead
  split
  · exact (changes_statusSent s _).andThen (changes_setPhase _ _)
  · exact .refl _ s

/-- What the completion of a READ can change. -/
def readPieces : List Piece := [.phase, .reply, .notices, .scanState, .frames, .pool, .delivery]

theorem changes_releaseScanner : Changes [.scanState] s s.releaseScanner := by
  unfold State.releaseScanner
  split
  · exact changes_setScan_state s _
  · exact .refl _ s

theorem changes_takeDelivered (h : Handle) : Changes [.delivery, .frames, .pool] s (s.takeDelivered h) := by
  refine Changes.andThen (t := { s with store := { s.store with delivery := s.store.delivery.erase h } }) (fun p hp => ?_)
    (changes_release _ h)
  cases p <;> cases hp <;> rfl

theorem changes_consume (item : Item) (c : Carry) : Changes readPieces s (s.consume item c) := by
  cases item with
  | reply => exact fun p hp => by cases p <;> cases hp <;> rfl
  | notice src =>
    have taken : Changes readPieces s (s.setLink { s.link with notices := consumeNotice src c s.link.notices }) :=
      fun p hp => by cases p <;> cases hp <;> rfl
    unfold State.consume
    dsimp only
    split
    · exact taken.andThen (changes_releaseScanner _)
    · exact taken
  | frame h => exact (changes_takeDelivered s h).mono (by decide)
  | empty => exact .refl _ s

theorem changes_completeRead : Changes readPieces s s.completeRead := by
  unfold State.completeRead
  split
  · exact (changes_consume s _ _).andThen (changes_setPhase _ _)
  · exact .refl _ s

theorem changes_resetAssert : Changes (.resetLow :: startPieces) s s.resetAssert := by
  unfold State.resetAssert
  dsimp only
  split <;> exact fun p hp => by cases p <;> cases hp <;> rfl

theorem changes_supplyAssert : Changes [.phase, .notices, .supplyLow, .latch, .holds, .radio] s s.supplyAssert := by
  unfold State.supplyAssert
  split <;> exact fun p hp => by cases p <;> cases hp <;> rfl

theorem changes_supplyRelease : Changes [.phase, .notices, .supplyLow, .holds] s s.supplyRelease := by
  unfold State.supplyRelease
  split <;> exact fun p hp => by cases p <;> cases hp <;> rfl

/-- What the completion of a cold start changes: all but the queue of commands. -/
def coldPieces : List Piece :=
  [.phase, .error, .staged, .reply, .notices, .nbrs, .settings, .floors, .entries, .maskA, .maskB, .profile, .lastMatch,
    .frames, .pool, .mem, .picks, .queues, .delivery, .discards, .checkFail, .foreign, .radio, .progress, .count, .holds,
    .maps, .active, .slotLen, .sync, .pendingD, .lastD, .scanSettings, .scanState, .ignored, .identity, .latch, .supplyLow,
    .resetLow, .cause, .starting]

theorem changes_completeStart : Changes coldPieces s s.completeStart := by
  unfold State.completeStart
  split
  · exact .refl _ s
  · exact fun p hp => by cases p <;> cases hp; rfl

theorem changes_dropOversize (cost body : Nat) (q : List Handle) :
    Changes [.frames, .pool, .discards] s (dropOversize cost body q s).1 := by
  induction q generalizing s with
  | nil => exact .refl _ s
  | cons h rest ih =>
    unfold dropOversize
    split
    · exact (changes_discard s .airtime h).andThen (ih _)
    · exact .refl _ s

/-- What the owner of a slot can change at its start. -/
def openPieces : List Piece := [.radio, .scanState, .frames, .pool, .discards, .queues]

/-- What the start of a slot can change. -/
def slotStartPieces : List Piece := .progress :: .pendingD :: openPieces

theorem changes_openTx (n : NbrIdx) : Changes openPieces s (s.openTx n) := by
  unfold State.openTx
  dsimp only
  have chosen := fun cost => ((changes_dropOversize s cost (slotBody s.sched.slotLen) (s.queue n)).mono
    (qs := openPieces) (by decide)).andThen (changes_setQueue _ n (dropOversize cost (slotBody s.sched.slotLen) (s.queue n) s).2)
  split
  · split
    · exact (changes_setRadio s _).mono (by decide)
    · split
      · exact (chosen _).andThen (changes_setRadio _ _)
      · exact (chosen _).andThen (changes_setRadio _ _)
  · exact .refl _ s

theorem changes_openRx (n : NbrIdx) : Changes openPieces s (s.openRx n) := by
  unfold State.openRx
  dsimp only
  split
  · exact (changes_setRadio s _).mono (by decide)
  · exact .refl _ s

theorem changes_openBeacon (sec : Sector) : Changes openPieces s (s.openBeacon sec) := by
  unfold State.openBeacon
  split
  · exact (changes_setRadio s _).mono (by decide)
  · exact .refl _ s

theorem changes_openScan (slot : SlotIdx) : Changes openPieces s (s.openScan slot) := by
  unfold State.openScan
  split
  · split
    · exact (changes_setScan_state s _).mono (by decide)
    · exact ((changes_setScan_state s _).mono (by decide)).andThen (changes_setRadio _ _)
  · exact .refl _ s

theorem changes_openOwner (i : SlotIdx) (kind : SlotKind) : Changes openPieces s (s.openOwner i kind) := by
  cases kind with
  | idle => exact .refl _ s
  | tx n => exact changes_openTx s n
  | rx n => exact changes_openRx s n
  | beacon sec => exact changes_openBeacon s sec
  | scan => exact changes_openScan s i

theorem changes_slotStart : Changes slotStartPieces s s.slotStart := by
  unfold State.slotStart
  split
  · next i _ =>
    have opened : Changes slotStartPieces s (s.setSched (s.sched.startSlot i)) :=
      fun p hp => by cases p <;> cases hp <;> rfl
    exact opened.andThen (changes_openOwner _ i _)
  · exact .refl _ s

theorem changes_enterPart (o : OpenSlot) (q : SlotPart) : Changes [.progress, .radio] s (s.enterPart o q) :=
  fun p hp => by cases p <;> cases hp <;> rfl

theorem changes_startBurst (ctx : TxCtx) : Changes [.radio] s (s.startBurst ctx) := by
  unfold State.startBurst
  split
  · exact .refl _ s
  · exact changes_setRadio s _

theorem changes_startBeacon (sec : Sector) (slot : SlotIdx) : Changes [.radio] s (s.startBeacon sec slot) := by
  unfold State.startBeacon
  split
  · exact .refl _ s
  · exact changes_setRadio s _

theorem changes_bodyStart : Changes [.progress, .radio] s s.bodyStart := by
  unfold State.bodyStart
  split
  · exact .refl _ s
  · next o _ =>
    split
    · have entered := changes_enterPart s o .body
      dsimp only
      split
      · exact entered.andThen (changes_startBurst _ _)
      · exact entered.andThen (changes_startBeacon _ _ _)
      · exact entered
    · exact .refl _ s

theorem changes_rxTail (ctx : RxCtx) : Changes [.radio] s (s.rxTail ctx) := by
  unfold State.rxTail
  dsimp only
  split <;> exact changes_setRadio s _

theorem changes_tailStart : Changes [.progress, .radio] s s.tailStart := by
  unfold State.tailStart
  split
  · exact .refl _ s
  · next o _ =>
    split
    · exact .refl _ s
    · have entered := changes_enterPart s o .tail
      dsimp only
      split
      · exact entered.andThen (changes_rxTail _ _)
      · exact entered

theorem changes_endBurst : Changes [.radio] s s.endBurst := by
  unfold State.endBurst
  split
  · split
    · exact changes_setRadio s _
    · exact .refl _ s
  · exact .refl _ s

theorem changes_endAir (kind : AirKind) : Changes [.radio] s (s.endAir kind) := by
  unfold State.endAir
  split
  · split
    · exact changes_setRadio s _
    · exact .refl _ s
  · exact .refl _ s

theorem changes_takeQuiet (code : Code) : Changes [.scanState] s (s.takeQuiet code) := by
  unfold State.takeQuiet
  split
  · split
    · exact changes_setScan_state s _
    · exact .refl _ s
  · exact .refl _ s

theorem changes_dwellArrival (bytes : List Byte) (code : Code) (time : Nat) :
    Changes [.scanState] s (s.dwellArrival bytes code time) := by
  unfold State.dwellArrival
  split
  · split
    · exact .refl _ s
    · exact changes_setScan_state s _
  · exact .refl _ s

theorem changes_txArrival (bytes : List Byte) (code : Code) :
    Changes [.radio, .checkFail, .foreign] s (s.txArrival bytes code) := by
  have foreign : Changes [.radio, .checkFail, .foreign] s s.countForeign :=
    fun p hp => by cases p <;> cases hp <;> rfl
  unfold State.txArrival
  split
  · split
    · split
      · exact .refl _ s
      · split
        · exact fun p hp => by cases p <;> cases hp <;> rfl
        · unfold State.soundInTail
          split
          · split
            · split
              · exact (changes_setRadio s _).mono (by decide)
              · exact .refl _ s
            · exact foreign
          · exact foreign
    · exact .refl _ s
  · exact .refl _ s

/-- What the end of a slot can change. -/
def slotEndPieces : List Piece := .floors :: .progress :: movePieces

theorem changes_endOwner (kind : SlotKind) : Changes (.floors :: movePieces) s (s.endOwner kind) := by
  unfold State.endOwner
  split
  · exact .refl _ s
  · exact .refl _ s
  · split
    · unfold State.txEnd
      split
      · exact .refl _ s
      · next n _ =>
        dsimp only
        split
        · exact ((changes_settle s n _ _).mono (by decide)).andThen (changes_observe _ n _)
        · exact (changes_observe s n _).mono (by decide)
        · exact (changes_observe s n _).mono (by decide)
    · exact .refl _ s
  · split
    · exact (changes_observe s _ _).mono (by decide)
    · exact .refl _ s
  · split
    · exact changes_dwellEnd s _
    · exact .refl _ s

theorem changes_slotEnd : Changes slotEndPieces s s.slotEnd := by
  unfold State.slotEnd
  split
  · exact .refl _ s
  · next o _ =>
    refine (((changes_endOwner s o.kind).mono (qs := slotEndPieces) (by decide)).andThen (changes_setRadio _ Radio.off)).andThen
      (qs := [.progress]) fun p hp => ?_
    cases p <;> cases hp <;> rfl

theorem changes_decideStaged : Changes [.active, .staged, .reply] s s.decideStaged := by
  unfold State.decideStaged Scheduler.switch
  dsimp only
  split
  · split <;> exact fun p hp => by cases p <;> cases hp <;> rfl
  · exact .refl _ s

/-- What a superframe boundary can change. -/
def boundaryPieces : List Piece := [.progress, .count, .active, .staged, .reply] ++ movePieces

theorem changes_boundaryWork : Changes boundaryPieces s s.boundaryWork := by
  have counted : Changes boundaryPieces s (s.setSched { s.sched with count := s.sched.count + 1 }) :=
    fun p hp => by cases p <;> cases hp <;> rfl
  exact ((counted.andThen (changes_decideStaged _)).andThen (changes_run changes_move (moves_ageSeeking _))).andThen
    (changes_boundaryTrigger _)

theorem changes_boundary : Changes boundaryPieces s s.boundary := by
  have moved : ∀ st, Changes boundaryPieces s (s.setSched { s.sched with state := st }) :=
    fun _ p hp => by cases p <;> cases hp <;> rfl
  unfold State.boundary
  split
  · exact (moved _).andThen (changes_boundaryWork _)
  · split
    · exact (moved _).andThen (changes_boundaryWork _)
    · exact .refl _ s
  · exact .refl _ s

end


/-! ### What a command is -/

/-- A command is the write completion of a record, with the work of its owner, or an event with its effect. -/
inductive Work where
  | request (owner : State → State)
  | event (effect : State → State)

/-- The work of each command. -/
def work : Instr → Work
  | .selectFall => .event State.selectFall
  | .write => .event State.takeWrite
  | .read => .event State.takeRead
  | .invalidTransactionKind => .event State.takeInvalid
  | .malformedRecord kind len taken => .request (State.malformed · kind len taken)
  | .readCompletion => .event State.completeRead
  | .readEndedEarly => .event State.endReadEarly
  | .linkSettings wr c => .request (State.linkSettings · wr c)
  | .neighbourEnrol index nodeId hint cap => .request (State.enrol · index nodeId hint cap)
  | .neighbourRetire index => .request (State.retireRequest · index)
  | .neighbourConfirm index => .request (State.confirm · index)
  | .neighbourQuery index clear => .request (State.query · index clear)
  | .lookup key => .request (State.lookupRequest · key)
  | .find st any key => .request (State.findRequest · st any key)
  | .findFree any _ => .request (State.findFreeRequest · any)
  | .entryWrite index e => .request (State.entryWrite · index e)
  | .entryPlace e => .request (State.entryPlace · e)
  | .entryRead index => .request (State.entryReadRequest · index)
  | .entryState target st => .request (State.entryStateRequest · target st)
  | .tableClear scope => .request (State.tableClear · scope)
  | .maskSet profile ignore c g => .request (State.maskSet · profile ignore c g)
  | .maskSelect profile => .request (State.maskSelect · profile)
  | .frameSend dest cls hops payload => .request (State.frameSend · dest cls hops payload)
  | .counters clear => .request (State.countersRequest · clear)
  | .slotLength v => .request (State.setSlotLength · v)
  | .mapWrite map first has check codes => .request (State.mapWrite · map first has check codes)
  | .mapRead map => .request (State.mapReadRequest · map)
  | .mapSwitch => .request State.mapSwitchRequest
  | .scheduleStart => .request State.scheduleStart
  | .scheduleStop => .request State.scheduleStop
  | .timingSet index => .request (State.timingSet · index)
  | .scanSet mode start stop b l => .request (State.scanSet · mode start stop b l)
  | .scanStart => .request State.scanStart
  | .scanHalt => .request State.scanHalt
  | .identify nodeId epoch => .request (State.identifyRequest · nodeId epoch)
  | .status => .request State.statusRequest
  | .restartWarm => .request (State.restartRequest · 1)
  | .restartCold => .request (State.restartRequest · 0)
  | .powerOn => .event (State.beginStart · .power)
  | .reset => .event State.resetAssert
  | .coldStartCompletion => .event State.completeStart
  | .supplyLowAssertion => .event State.supplyAssert
  | .supplyLowDeassertion => .event State.supplyRelease
  | .slotStart => .event State.slotStart
  | .bodyStart => .event State.bodyStart
  | .burstEnd => .event State.endBurst
  | .beaconEnd => .event (State.endAir · .beacon)
  | .quietCode code => .event (State.takeQuiet · code)
  | .tailStart => .event State.tailStart
  | .rxFrameArrival bytes code => .event (State.rxArrival · bytes code)
  | .acksetArrival bytes code => .event (State.txArrival · bytes code)
  | .dwellFrameArrival bytes code time => .event (State.dwellArrival · bytes code time)
  | .slotEnd => .event State.slotEnd
  | .superframeBoundary => .event State.boundary
  | .acksetEnd => .event (State.endAir · .ackset)
  | .restartRange form => .request (State.restartRequest · form)

theorem State.takeRequest_cases {s t : State} {owner : State → State} (h : s.takeRequest owner = .next t) :
    (¬ s.accepting ∧ t = s) ∨ (s.accepting ∧ t = owner (s.setPhase .spent)) := by
  by_cases a : s.accepting
  · rw [State.takeRequest_accepting a] at h
    injection h with h
    exact .inr ⟨a, h.symm⟩
  · rw [State.takeRequest_lost a] at h
    injection h with h
    exact .inl ⟨a, h.symm⟩

/-- A request is its owner's work where a WRITE was accepted; an event takes its effect. -/
theorem exec_work (c : Instr) (s : State) :
    exec c s = match work c with
      | .request owner => s.takeRequest owner
      | .event effect => .next (effect s) := by
  cases c <;> rfl

theorem exec_event {c : Instr} {s t : State} {effect : State → State} (h : exec c s = .next t)
    (hc : work c = .event effect) : t = effect s := by
  rw [exec_work, hc] at h
  injection h with h
  exact h.symm

/-- What a request comes to: nothing where no WRITE was accepted, else the owner's work on the state in which the rest of the
transaction has no effect. -/
theorem exec_request {c : Instr} {s t : State} {owner : State → State} (h : exec c s = .next t)
    (hc : work c = .request owner) : (¬ s.accepting ∧ t = s) ∨ (s.accepting ∧ t = owner (s.setPhase .spent)) := by
  rw [exec_work, hc] at h
  exact State.takeRequest_cases h

/-- Every command completes: no meaning ends in a fault or a refusal. -/
theorem exec_next (c : Instr) (s : State) : ∃ t, exec c s = .next t := by
  rw [exec_work]
  split
  · exact State.takeRequest_next s _
  · exact ⟨_, rfl⟩

/-! ### Footprints of the commands -/

/-- The pieces that a command can change. -/
def footprint : Instr → List Piece
  | .selectFall | .write | .read | .invalidTransactionKind | .readEndedEarly => [.phase, .error]
  | .malformedRecord _ _ _ | .entryRead _ | .mapRead _ => [.phase, .reply]
  | .readCompletion => readPieces
  | .linkSettings _ _ => [.phase, .reply, .settings]
  | .neighbourEnrol _ _ _ _ => [.phase, .reply, .nbrs, .queues, .phase, .notices]
  | .neighbourRetire _ => .phase :: retirePieces
  | .neighbourConfirm _ => .phase :: .reply :: linkPieces
  | .neighbourQuery _ _ => [.phase, .reply, .nbrs]
  | .lookup _ | .find _ _ _ | .findFree _ _ => [.phase, .reply, .lastMatch]
  | .entryWrite _ _ | .entryPlace _ | .entryState _ _ => [.phase, .reply, .entries]
  | .tableClear _ => [.phase, .reply, .entries, .lastMatch]
  | .maskSet _ _ _ _ => [.phase, .reply, .maskA, .maskB]
  | .maskSelect _ => [.phase, .reply, .profile]
  | .frameSend _ _ _ _ => .phase :: .reply :: trafficPieces
  | .counters _ => [.phase, .reply, .discards, .checkFail, .foreign]
  | .slotLength _ => [.phase, .reply, .slotLen]
  | .mapWrite _ _ _ _ _ => [.phase, .reply, .maps]
  | .mapSwitch => [.phase, .reply, .staged, .active]
  | .scheduleStart => [.phase, .reply, .progress, .count, .pendingD]
  | .scheduleStop => [.phase, .reply, .radio, .scanState, .progress, .pendingD]
  | .timingSet _ => .phase :: .reply :: syncPieces
  | .scanSet _ _ _ _ _ => [.phase, .reply, .scanSettings, .ignored]
  | .scanStart => [.phase, .reply, .radio, .scanState, .ignored]
  | .scanHalt => [.phase, .reply, .radio, .scanState]
  | .identify _ _ => [.phase, .reply, .identity, .holds]
  | .status => [.phase, .reply, .latch]
  | .restartWarm | .restartCold | .restartRange _ => .phase :: restartPieces
  | .powerOn => startPieces
  | .reset => .resetLow :: startPieces
  | .coldStartCompletion => coldPieces
  | .supplyLowAssertion => [.phase, .notices, .supplyLow, .latch, .holds, .radio]
  | .supplyLowDeassertion => [.phase, .notices, .supplyLow, .holds]
  | .slotStart => slotStartPieces
  | .bodyStart | .tailStart => [.progress, .radio]
  | .burstEnd | .beaconEnd | .acksetEnd => [.radio]
  | .quietCode _ | .dwellFrameArrival _ _ _ => [.scanState]
  | .rxFrameArrival _ _ => trafficPieces
  | .acksetArrival _ _ => [.radio, .checkFail, .foreign]
  | .slotEnd => slotEndPieces
  | .superframeBoundary => boundaryPieces

theorem changes_request {s t : State} {owner : State → State} {ps : List Piece} (work : ∀ u, Changes ps u (owner u))
    (h : s.takeRequest owner = .next t) : Changes (.phase :: ps) s t := by
  obtain ⟨-, rfl⟩ | ⟨-, rfl⟩ := State.takeRequest_cases h
  · exact .refl _ _
  · refine ((changes_setPhase s .spent).mono ?_).andThen (work _) fun _ => List.mem_cons_of_mem _
    exact fun p m => List.mem_cons.2 (.inl (List.mem_singleton.1 m))

theorem changes_exec {c : Instr} {s t : State} (h : exec c s = .next t) : Changes (footprint c) s t := by
  have event : ∀ {ps : List Piece} {u : State}, Changes ps s u → Host.Outcome.next u = (.next t : Host.Outcome State Fault Refusal) →
      Changes ps s t := fun work e => by
    injection e with e
    exact e ▸ work
  cases c with
  | selectFall => exact event (changes_selectFall s) h
  | write => exact event (changes_takeWrite s) h
  | read => exact event (changes_takeRead s) h
  | invalidTransactionKind => exact event (changes_takeInvalid s) h
  | malformedRecord kind len taken => exact changes_request (changes_malformed · kind len taken) h
  | readCompletion => exact event (changes_completeRead s) h
  | readEndedEarly => exact event (changes_endReadEarly s) h
  | linkSettings wr c => exact changes_request (changes_linkSettings · wr c) h
  | neighbourEnrol index nodeId hint cap => exact changes_request (changes_enrol · index nodeId hint cap) h
  | neighbourRetire index => exact changes_request (changes_retireRequest · index) h
  | neighbourConfirm index => exact changes_request (changes_confirm · index) h
  | neighbourQuery index clear => exact changes_request (changes_query · index clear) h
  | lookup key => exact changes_request (changes_lookupRequest · key) h
  | find st any key => exact changes_request (changes_findRequest · st any key) h
  | findFree any key => exact changes_request (changes_findFreeRequest · any) h
  | entryWrite index e => exact changes_request (changes_entryWrite · index e) h
  | entryPlace e => exact changes_request (changes_entryPlace · e) h
  | entryRead index => exact changes_request (changes_entryReadRequest · index) h
  | entryState target st => exact changes_request (changes_entryStateRequest · target st) h
  | tableClear scope => exact changes_request (changes_tableClear · scope) h
  | maskSet profile ignore c g => exact changes_request (changes_maskSet · profile ignore c g) h
  | maskSelect profile => exact changes_request (changes_maskSelect · profile) h
  | frameSend dest cls hops payload => exact changes_request (changes_frameSend · dest cls hops payload) h
  | counters clear => exact changes_request (changes_countersRequest · clear) h
  | slotLength v => exact changes_request (changes_setSlotLength · v) h
  | mapWrite map first has check codes => exact changes_request (changes_mapWrite · map first has check codes) h
  | mapRead map => exact changes_request (changes_mapReadRequest · map) h
  | mapSwitch => exact changes_request changes_mapSwitchRequest h
  | scheduleStart => exact changes_request changes_scheduleStart h
  | scheduleStop => exact changes_request changes_scheduleStop h
  | timingSet index => exact changes_request (changes_timingSet · index) h
  | scanSet mode start stop b l => exact changes_request (changes_scanSet · mode start stop b l) h
  | scanStart => exact changes_request changes_scanStart h
  | scanHalt => exact changes_request changes_scanHalt h
  | identify nodeId epoch => exact changes_request (changes_identifyRequest · nodeId epoch) h
  | status => exact changes_request changes_statusRequest h
  | restartWarm => exact changes_request (changes_restartRequest · 1) h
  | restartCold => exact changes_request (changes_restartRequest · 0) h
  | powerOn => exact event (changes_beginStart s .power) h
  | reset => exact event (changes_resetAssert s) h
  | coldStartCompletion => exact event (changes_completeStart s) h
  | supplyLowAssertion => exact event (changes_supplyAssert s) h
  | supplyLowDeassertion => exact event (changes_supplyRelease s) h
  | slotStart => exact event (changes_slotStart s) h
  | bodyStart => exact event (changes_bodyStart s) h
  | burstEnd => exact event (changes_endBurst s) h
  | beaconEnd => exact event (changes_endAir s .beacon) h
  | quietCode code => exact event (changes_takeQuiet s code) h
  | tailStart => exact event (changes_tailStart s) h
  | rxFrameArrival bytes code => exact event (changes_run changes_traffic (travels_rxArrival s bytes code)) h
  | acksetArrival bytes code => exact event (changes_txArrival s bytes code) h
  | dwellFrameArrival bytes code time => exact event (changes_dwellArrival s bytes code time) h
  | slotEnd => exact event (changes_slotEnd s) h
  | superframeBoundary => exact event (changes_boundary s) h
  | acksetEnd => exact event (changes_endAir s .ackset) h
  | restartRange form => exact changes_request (changes_restartRequest · form) h

theorem exec_pending {c : Instr} {s t : State} (h : exec c s = .next t) : t.pending = s.pending := by
  have same := changes_exec h .pending
  cases c <;> exact same rfl

/-! ### Whose footprints hold what a warm restart keeps -/

theorem settings_owner {c : Instr} (h : (footprint c).contains .settings = true) (notCold : c ≠ .coldStartCompletion) :
    requestKind c = some 0x01 := by
  cases c <;> cases h
  case linkSettings.refl => rfl
  case coldStartCompletion.refl => exact absurd rfl notCold

theorem identity_owner {c : Instr} (h : (footprint c).contains .identity = true) (notCold : c ≠ .coldStartCompletion) :
    requestKind c = some 0x1B := by
  cases c <;> cases h
  case identify.refl => rfl
  case coldStartCompletion.refl => exact absurd rfl notCold

theorem maps_owner {c : Instr} (h : (footprint c).contains .maps = true) (notCold : c ≠ .coldStartCompletion) :
    requestKind c = some 0x12 := by
  cases c <;> cases h
  case mapWrite.refl => rfl
  case coldStartCompletion.refl => exact absurd rfl notCold

theorem slotLen_owner {c : Instr} (h : (footprint c).contains .slotLen = true) (notCold : c ≠ .coldStartCompletion) :
    requestKind c = some 0x11 := by
  cases c <;> cases h
  case slotLength.refl => rfl
  case coldStartCompletion.refl => exact absurd rfl notCold

theorem maskA_owner {c : Instr} (h : (footprint c).contains .maskA = true) (notCold : c ≠ .coldStartCompletion) :
    requestKind c = some 0x0D := by
  cases c <;> cases h
  case maskSet.refl => rfl
  case coldStartCompletion.refl => exact absurd rfl notCold

theorem maskB_owner {c : Instr} (h : (footprint c).contains .maskB = true) (notCold : c ≠ .coldStartCompletion) :
    requestKind c = some 0x0D := by
  cases c <;> cases h
  case maskSet.refl => rfl
  case coldStartCompletion.refl => exact absurd rfl notCold

theorem profile_owner {c : Instr} (h : (footprint c).contains .profile = true) (notCold : c ≠ .coldStartCompletion) :
    requestKind c = some 0x0E := by
  cases c <;> cases h
  case maskSelect.refl => rfl
  case coldStartCompletion.refl => exact absurd rfl notCold

theorem scanSettings_owner {c : Instr} (h : (footprint c).contains .scanSettings = true) (notCold : c ≠ .coldStartCompletion) :
    requestKind c = some 0x18 := by
  cases c <;> cases h
  case scanSet.refl => rfl
  case coldStartCompletion.refl => exact absurd rfl notCold

theorem floors_owner {c : Instr} (h : (footprint c).contains .floors = true) (notCold : c ≠ .coldStartCompletion) :
    c = .slotEnd := by
  cases c <;> cases h
  case slotEnd.refl => rfl
  case coldStartCompletion.refl => exact absurd rfl notCold

theorem active_owner {c : Instr} (h : (footprint c).contains .active = true) (notCold : c ≠ .coldStartCompletion) :
    c = .mapSwitch ∨ c = .superframeBoundary := by
  cases c <;> cases h
  case mapSwitch.refl => exact .inl rfl
  case superframeBoundary.refl => exact .inr rfl
  case coldStartCompletion.refl => exact absurd rfl notCold

theorem sync_owner {c : Instr} (h : (footprint c).contains .sync = true) (notCold : c ≠ .coldStartCompletion) :
    requestKind c = some 0x17 ∨ requestKind c = some 0x03 := by
  cases c <;> cases h
  case timingSet.refl => exact .inl rfl
  case neighbourRetire.refl => exact .inr rfl
  case coldStartCompletion.refl => exact absurd rfl notCold

/-- What holds before a step and is kept by every command holds after it, the queue of commands being no part of it. -/
theorem step_keeps {P : State → Prop} (queue : ∀ s q, P s → P (s.withPending q))
    (command : ∀ c s t, P s → exec c s = .next t → P t) {s t : State} (h : P s) (next : step s = .next t) : P t := by
  unfold step at next
  split at next
  · injection next with next
    exact next ▸ h
  · exact command _ _ t (queue s _ h) next

end Sys2Proof.Machine

namespace Sys2Proof.Proofs

open Sys2Proof Sys2Proof.Machine

/-- Settles O2: every arm of the dispatch answers a next state, and no footprint holds the queue of commands. -/
theorem everyCommandCompletesAndKeepsTheQueue : Obligations.EveryCommandCompletesAndKeepsTheQueue := by
  intro c s
  obtain ⟨t, next⟩ := exec_next c s
  exact ⟨t, next, exec_pending next⟩

/-- Settles O12: what a warm restart keeps stands in the footprints of its owners only. -/
theorem onlyOwnersChangeKeptState : Obligations.OnlyOwnersChangeKeptState := by
  intro c s t next notCold
  have owned : ∀ {p : Piece}, ¬ p.Same s t → (footprint c).contains p = true :=
    fun changed => eq_true_of_ne_false fun kept => changed (changes_exec next _ kept)
  refine ⟨fun d => settings_owner (owned (p := .settings) d) notCold, fun d => floors_owner (owned (p := .floors) d) notCold,
    fun d => identity_owner (owned (p := .identity) d) notCold, fun d => maps_owner (owned (p := .maps) d) notCold,
    fun d => active_owner (owned (p := .active) d) notCold, fun d => slotLen_owner (owned (p := .slotLen) d) notCold,
    ?_, fun d => profile_owner (owned (p := .profile) d) notCold, fun d => sync_owner (owned (p := .sync) d) notCold,
    fun d => scanSettings_owner (owned (p := .scanSettings) d) notCold⟩
  rintro (d | d)
  · exact maskA_owner (owned (p := .maskA) d) notCold
  · exact maskB_owner (owned (p := .maskB) d) notCold

end Sys2Proof.Proofs
end

section
/-! The path table under every command: a FORWARD entry names an enrolled neighbour, a LIVE one an UP neighbour, and a PARKED one a
neighbour that is not UP (R39, R58, R59). -/

namespace Sys2Proof.Machine

open Sys2Proof

/-! ### What the end of a slot and the boundary keep -/

/-- What every step of a fold keeps, the fold keeps. -/
theorem foldl_keeps {α σ : Type} {P : σ → Prop} (f : σ → α → σ) (one : ∀ a x, P a → P (f a x)) (l : List α) {a : σ} (h : P a) :
    P (l.foldl f a) := by
  induction l generalizing a with
  | nil => exact h
  | cons x rest ih => exact ih (one a x h)

/-- What each move of a relation keeps, its runs keep. -/
theorem run_keeps {R : State → State → Prop} {P : State → Prop} (one : ∀ ⦃s t⦄, P s → R s t → P t) {s t : State} (h : P s)
    (run : Relation.ReflTransGen R s t) : P t := by
  induction run with
  | refl => exact h
  | tail _ last ih => exact one ih last

/-- What the end of a slot changes besides the link monitor's moves, the settling of an in-flight set, the scan report and the
progress of the superframe. -/
def asidePieces : List Piece := [.floors, .scanState, .radio]

/-- The state with the superframe at another point of its course. -/
def State.progressTo (s : State) (p : Progress) : State := s.setSched { s.sched with state := .running p }

theorem changes_progressTo (s : State) (q : Progress) : Changes [.progress] s (s.progressTo q) :=
  fun p hp => by cases p <;> cases hp <;> rfl

theorem changes_count (s : State) : Changes [.count] s (s.setSched { s.sched with count := s.sched.count + 1 }) :=
  fun p hp => by cases p <;> cases hp <;> rfl

theorem Scheduler.isRunning_iff (c : Scheduler) : c.isRunning = true ↔ ∃ p, c.state = .running p := by
  unfold Scheduler.isRunning
  split <;> simp_all

theorem Scheduler.isRunning_of_openSlot {c : Scheduler} {o : OpenSlot} (h : c.openSlot = some o) : c.isRunning = true := by
  unfold Scheduler.openSlot at h
  split at h
  · next e => exact c.isRunning_iff.2 ⟨_, e⟩
  · cases h

/-- Whether the scheduler is RUNNING depends on its state alone. -/
theorem Scheduler.isRunning_eq {c d : Scheduler} (h : d.state = c.state) : d.isRunning = c.isRunning := by
  unfold Scheduler.isRunning
  rw [h]

section
variable {P : State → Prop} {s : State}

theorem boundaryWork_keeps (counted : P s → P (s.setSched { s.sched with count := s.sched.count + 1 }))
    (decided : ∀ ⦃s⦄, P s → P s.decideStaged)
    (aged : ∀ ⦃s⦄, P s → P s.ageSeeking) (trigger : ∀ ⦃s⦄, P s → P s.boundaryTrigger) (h : P s) : P s.boundaryWork :=
  trigger (aged (decided (counted h)))

theorem boundary_keeps (onward : ∀ ⦃s⦄ p, P s → s.sched.isRunning = true → P (s.progressTo p))
    (counted : ∀ ⦃s⦄, P s → P (s.setSched { s.sched with count := s.sched.count + 1 }))
    (decided : ∀ ⦃s⦄, P s → P s.decideStaged)
    (aged : ∀ ⦃s⦄, P s → P s.ageSeeking) (trigger : ∀ ⦃s⦄, P s → P s.boundaryTrigger) (h : P s) : P s.boundary := by
  unfold State.boundary
  split
  · next e =>
    have running : s.sched.isRunning = true := s.sched.isRunning_iff.2 ⟨_, e⟩
    exact boundaryWork_keeps (counted ·) decided aged trigger (onward _ h running)
  · next o e =>
    have running : s.sched.isRunning = true := s.sched.isRunning_iff.2 ⟨_, e⟩
    split
    · exact boundaryWork_keeps (counted ·) decided aged trigger (onward _ h running)
    · exact h
  · exact h

variable (move : ∀ ⦃s t⦄, P s → Move s t → P t)
include move

theorem txEnd_keeps (h : P s) {ctx : TxCtx}
    (settle : ∀ n set list, ctx.nbr = some n → ctx.content = .frames set → P (s.settle n set list)) : P (s.txEnd ctx) := by
  have sampled : ∀ (c : Option (Code × List Seq)) (floor : Code) (x : Int), c.map (fun a => sampleOf a.1 floor) = some x →
      -128 ≤ x ∧ x ≤ 383 := fun c floor x e => by
    obtain ⟨a, -, rfl⟩ := Option.map_eq_some_iff.1 e
    exact sampleOf_mem _ _
  unfold State.txEnd
  split
  · exact h
  · next n named =>
    dsimp only
    split
    · next set content => exact run_keeps move (settle n set _ named content) (moves_observe _ n (sampled _ _))
    · exact run_keeps move h (moves_observe _ n (sampled _ _))
    · exact run_keeps move h (moves_observe _ n (sampled _ _))

variable (aside : ∀ ⦃s t⦄, P s → Changes asidePieces s t → P t)
  (report : ∀ ⦃s⦄ d lines next, P s → P (s.postScan d lines next))
include aside report

theorem dwellEnd_keeps (h : P s) (d : Dwell) : P (s.dwellEnd d) := by
  have handed := run_keeps move (aside h ((changes_writeFloor s d.sector d.quiet).mono (by decide)))
    (moves_handOver d.sector d.beacons (s.writeFloor d.sector d.quiet))
  exact aside (report d _ _ handed) ((changes_setScan_state _ _).mono (by decide))

theorem endOwner_keeps (h : P s) (settle : ∀ ctx n set list, s.radio.tx = some ctx → ctx.nbr = some n → ctx.content = .frames set →
      P (s.settle n set list)) (kind : SlotKind) : P (s.endOwner kind) := by
  cases kind with
  | idle => exact h
  | beacon _ => exact h
  | tx n =>
    unfold State.endOwner
    dsimp only
    split
    · next ctx open_ => exact txEnd_keeps move h fun n set list named content => settle ctx n set list open_ named content
    · exact h
  | rx n =>
    unfold State.endOwner
    dsimp only
    split
    · exact run_keeps move h (moves_rxEnd s _)
    · exact h
  | scan =>
    unfold State.endOwner
    dsimp only
    split
    · exact dwellEnd_keeps move aside report h _
    · exact h

theorem slotEnd_keeps (onward : ∀ ⦃s⦄ p, P s → s.sched.isRunning = true → P (s.progressTo p)) (h : P s)
    (settle : ∀ ctx n set list, s.radio.tx = some ctx → ctx.nbr = some n → ctx.content = .frames set →
      P (s.settle n set list)) : P s.slotEnd := by
  unfold State.slotEnd
  split
  · exact h
  · next o open_ =>
    have running : (s.endOwner o.kind).sched.isRunning = true :=
      (Scheduler.isRunning_eq (changes_endOwner s o.kind .progress rfl)).trans (Scheduler.isRunning_of_openSlot open_)
    exact onward o.after (aside (endOwner_keeps move aside report h settle o.kind) ((changes_setRadio _ Radio.off).mono (by decide)))
      running

end

/-! ### One route against the states of the neighbours -/

/-- The law of one route, the neighbours being in these states (R39). -/
def Route.Fits (st : NbrIdx → LinkState) (r : Route) : Prop :=
  (∀ n, r.action = .forward n → st n ≠ .vacant ∧ (r.state = .live → st n = .up) ∧ (r.state = .parked → st n ≠ .up))
    ∧ (r.state = .parked → ∃ n, r.action = .forward n)

theorem pathLaw_iff {s : State} : PathLaw s ↔ ∀ i r, s.entry i = some r → r.Fits fun n => (s.nbr n).state := Iff.rfl

/-- Only action and state of a route are judged. -/
theorem Route.Fits.of_same {st : NbrIdx → LinkState} {a b : Route} (h : a.Fits st) (state : b.state = a.state)
    (action : b.action = a.action) : b.Fits st := by
  unfold Route.Fits
  rw [state, action]
  exact h

/-- A barred route fits as soon as its next hop is enrolled. -/
theorem Route.fits_barred {st : NbrIdx → LinkState} {r : Route} (barred : r.state = .barred)
    (hop : ∀ n, r.action = .forward n → st n ≠ .vacant) : r.Fits st := by
  refine ⟨fun n e => ⟨hop n e, ?_, ?_⟩, ?_⟩ <;>
  · rw [barred]
    intro no
    cases no

/-- The law is kept where the neighbours keep their states and every entry comes from one of the same action and state. -/
theorem PathLaw.of_entries {s t : State} (h : PathLaw s) (nbrs : ∀ n, (t.nbr n).state = (s.nbr n).state)
    (entries : ∀ i b, t.entry i = some b → ∃ j a, s.entry j = some a ∧ b.state = a.state ∧ b.action = a.action) : PathLaw t := by
  rw [pathLaw_iff] at h ⊢
  simp only [nbrs]
  intro i b e
  obtain ⟨j, a, from_, state, action⟩ := entries i b e
  exact (h j a from_).of_same state action

theorem PathLaw.of_table {s t : State} (h : PathLaw s) (nbrs : ∀ n, (t.nbr n).state = (s.nbr n).state)
    (table : t.path.entries = s.path.entries) : PathLaw t :=
  h.of_entries nbrs fun i b e => ⟨i, b, State.entry_eq table i ▸ e, rfl, rfl⟩

theorem PathLaw.of_changes {s t : State} {ps : List Piece} (h : PathLaw s) (k : Changes ps s t)
    (nbrs : ps.contains .nbrs = false := by rfl) (entries : ps.contains .entries = false := by rfl) : PathLaw t :=
  h.of_table (fun n => congrArg Nbr.state (State.nbr_eq (k .nbrs nbrs) n)) (k .entries entries)

/-- Storing a route that fits keeps the law. -/
theorem PathLaw.setEntry {s : State} (h : PathLaw s) (i : EntryIdx) {e : Entry}
    (fits : ∀ r, e = some r → r.Fits fun n => (s.nbr n).state) : PathLaw (s.setEntry i e) := by
  intro j r hr
  rw [State.entry_setEntry] at hr
  split at hr
  · exact fits r hr
  · exact h j r hr

theorem PathLaw.freeEntries {s : State} (h : PathLaw s) (freed : Entry → Bool) : PathLaw (s.freeEntries freed) := by
  refine h.of_entries (fun _ => rfl) fun i b e => ⟨i, b, ?_, rfl, rfl⟩
  rw [State.entry_freeEntries] at e
  split at e
  · cases e
  · exact e

/-- A record replaced by one of the same state keeps the law. -/
theorem PathLaw.setNbr {s : State} (h : PathLaw s) (n : NbrIdx) {r : Nbr} (state : r.state = (s.nbr n).state) :
    PathLaw (s.setNbr n r) := by
  refine h.of_table (fun m => ?_) rfl
  rw [State.nbr_setNbr]
  split
  · next e => rw [e, state]
  · rfl

/-! ### Moves -/

theorem PathLaw.frameLookup {s : State} (h : PathLaw s) (q : Key) : PathLaw (s.frameLookup q).2 := by
  obtain ⟨-, e⟩ | ⟨i, r, -, entry, -, e⟩ := s.frameLookup_spec q <;> rw [e]
  · exact h
  · refine h.setEntry i fun r' e' => ?_
    obtain rfl := Option.some.inj e'
    exact Route.Fits.of_same (h i r entry) rfl rfl

theorem PathLaw.appendQueue {s : State} (h : PathLaw s) (m : NbrIdx) (f : Handle) : PathLaw (s.appendQueue m f) := by
  have stored : PathLaw (s.setNbr m { s.nbr m with txSeq := (s.nbr m).txSeq + 1 }) := h.setNbr m rfl
  exact stored

theorem PathLaw.rescueOne {acc : State × Rescue} (h : PathLaw acc.1) (f : Handle) : PathLaw (rescueOne acc f).1 := by
  unfold Machine.rescueOne
  split
  · exact h
  · next rec _ =>
    have looked := h.frameLookup { dest := rec.dest, cls := rec.cls, ing := rec.ing }
    dsimp only
    split
    · exact looked.of_changes (changes_discard _ _ _)
    · split
      · exact looked.of_changes (changes_discard _ _ _)
      · exact looked.of_changes (changes_appendDelivery _ _ _)
      · split
        · exact looked.of_changes (changes_discard _ _ _)
        · split
          · exact looked.appendQueue _ _
          · exact looked.of_changes (changes_discard _ _ _)

theorem PathLaw.rescue {s : State} (h : PathLaw s) (n : NbrIdx) : PathLaw (s.rescue n).1 :=
  foldl_keeps (P := fun acc => PathLaw acc.1) Machine.rescueOne (fun _ f h => h.rescueOne f) (s.queue n)
    (a := (s.setQueue n [], ⟨0, 0⟩)) (h.of_changes (changes_setQueue s n []))

/-- The law read against known states of the neighbours. -/
theorem PathLaw.of_fits {t : State} {st : NbrIdx → LinkState} (nbrs : ∀ m, (t.nbr m).state = st m)
    (fits : ∀ i r, t.entry i = some r → r.Fits st) : PathLaw t := by
  obtain rfl : (fun m => (t.nbr m).state) = st := funext nbrs
  exact fits

/-- The states of the neighbours with that of `n` changed. -/
def movedTo (st : NbrIdx → LinkState) (n : NbrIdx) (new : LinkState) (m : NbrIdx) : LinkState := if m = n then new else st m

theorem movedTo_self (st : NbrIdx → LinkState) (n : NbrIdx) (new : LinkState) : movedTo st n new n = new := if_pos rfl

/-- A route to one next hop fits by the state of that hop. -/
theorem Route.fits_of_hop {st : NbrIdx → LinkState} {r : Route} {n : NbrIdx} (action : r.action = .forward n)
    (enrolled : st n ≠ .vacant) (live : r.state = .live → st n = .up) (parked : r.state = .parked → st n ≠ .up) : r.Fits st := by
  refine ⟨fun m e => ?_, fun _ => ⟨n, action⟩⟩
  obtain rfl : n = m := Action.forward.inj (action.symm.trans e)
  exact ⟨enrolled, live, parked⟩

/-- A route that fitted still fits where its next hop did not move, or moved to a state that suits it. -/
theorem Route.Fits.movedTo {st : NbrIdx → LinkState} {r : Route} (h : r.Fits st) {n : NbrIdx} {new : LinkState}
    (notVacant : new ≠ .vacant) (suits : r.action = .forward n → (r.state = .live → new = .up) ∧ (r.state = .parked → new ≠ .up)) :
    r.Fits (movedTo st n new) := by
  by_cases action : r.action = .forward n
  · obtain ⟨live, parked⟩ := suits action
    exact Route.fits_of_hop action (by rwa [movedTo_self]) (by rwa [movedTo_self]) (by rwa [movedTo_self])
  · refine ⟨fun m e => ?_, h.2⟩
    have other : m ≠ n := fun e' => action (e' ▸ e)
    have same : Machine.movedTo st n new m = st m := if_neg other
    exact same ▸ h.1 m e

/-- An entry parked as its next hop leaves UP (R58). -/
theorem Route.fits_parkEntry {st : NbrIdx → LinkState} {o : Entry} {r' : Route} (h : ∀ r, o = some r → r.Fits st) {n : NbrIdx}
    {new : LinkState} (notVacant : new ≠ .vacant) (down : new ≠ .up) (e : parkEntry n o = some r') :
    r'.Fits (movedTo st n new) := by
  unfold parkEntry at e
  split at e
  · cases e
  · split at e
    · next parked =>
      obtain rfl := Option.some.inj e
      exact Route.fits_of_hop parked.2 (by rwa [movedTo_self]) (fun l => nomatch l) (fun _ => by rwa [movedTo_self])
    · next kept =>
      obtain rfl := Option.some.inj e
      exact (h _ rfl).movedTo notVacant fun action => ⟨fun live => absurd ⟨live, action⟩ kept, fun _ => down⟩

/-- An entry revived as its next hop enters UP (R59). -/
theorem Route.fits_unparkEntry {st : NbrIdx → LinkState} {o : Entry} {r' : Route} (h : ∀ r, o = some r → r.Fits st) {n : NbrIdx}
    (e : unparkEntry n o = some r') : r'.Fits (movedTo st n .up) := by
  unfold unparkEntry at e
  split at e
  · cases e
  · split at e
    · next revived =>
      obtain rfl := Option.some.inj e
      exact Route.fits_of_hop revived.2 (by simp [movedTo_self]) (fun _ => movedTo_self _ _ _) (fun p => nomatch p)
    · next kept =>
      obtain rfl := Option.some.inj e
      exact (h _ rfl).movedTo (by decide) fun action => ⟨fun _ => rfl, fun parked => absurd ⟨parked, action⟩ kept⟩

theorem State.state_after_change (s : State) (n m : NbrIdx) (new : LinkState) :
    ((s.modNbr n fun r => { r.clearRuns with state := new }).nbr m).state = movedTo (fun m => (s.nbr m).state) n new m := by
  rw [State.nbr_modNbr]
  unfold movedTo
  split <;> rfl

/-- The parking rule restores the law that the change of the record alone would break (R58, R59). -/
theorem PathLaw.parkFor {s : State} (h : PathLaw s) {n : NbrIdx} {new : LinkState} (notVacant : new ≠ .vacant) :
    PathLaw ((s.modNbr n fun r => { r.clearRuns with state := new }).parkFor n (s.nbr n).state new) := by
  unfold State.parkFor
  split
  · next leaves =>
    refine PathLaw.of_fits (s.state_after_change n · new) fun i r' e => ?_
    rw [State.entry_park] at e
    exact Route.fits_parkEntry (h i) notVacant leaves.2 e
  · next stays =>
    split
    · next enters =>
      obtain ⟨rfl, -⟩ := enters
      refine PathLaw.of_fits (s.state_after_change n · .up) fun i r' e => ?_
      rw [State.entry_unpark] at e
      exact Route.fits_unparkEntry (h i) e
    · next not_enters =>
      refine PathLaw.of_fits (s.state_after_change n · new) fun i r e => ?_
      have was : s.entry i = some r := e
      refine Route.Fits.movedTo (h i r was) notVacant fun action => ?_
      obtain ⟨-, live, parked⟩ := (h i r was).1 n action
      exact ⟨fun l => by_contra fun down => stays ⟨live l, down⟩, fun p up => not_enters ⟨up, parked p⟩⟩

theorem PathLaw.changeState {s : State} (h : PathLaw s) (n : NbrIdx) {new : LinkState} (cause : LinkCause)
    (notVacant : new ≠ .vacant) : PathLaw (s.changeState n new cause) := by
  have parked := h.parkFor (n := n) notVacant
  unfold State.changeState State.afterChange
  dsimp only
  split
  · exact ((parked.rescue n).of_changes (changes_lossTrigger _)).of_changes (changes_post _ _ _ _)
  · exact parked.of_changes (changes_post _ _ _ _)

theorem LinkState.ne_vacant_of_target {new : LinkState} (h : new = .lost ∨ new.heard = true) : new ≠ .vacant := by
  obtain rfl | heard := h
  · decide
  · exact LinkState.ne_vacant_of_heard heard

theorem Nbr.grow_state (r : Nbr) : r.grow.state = r.state := by
  unfold Nbr.grow
  split <;> rfl

theorem PathLaw.move {s t : State} (h : PathLaw s) (k : Move s t) : PathLaw t := by
  cases k with
  | revise n revised => exact h.setNbr n revised.state
  | change n new cause _ target _ => exact h.changeState n cause (LinkState.ne_vacant_of_target target)
  | tell n cause => exact h.of_changes (changes_post _ _ _ _)
  | grow =>
    refine h.of_table (fun n => ?_) rfl
    exact (congrArg Nbr.state (Tab.look_each Nbr.grow s.mon.nbrs n)).trans (Nbr.grow_state _)
  | measure b => exact h.of_changes (changes_measure s b)

theorem PathLaw.traffic {s t : State} (h : PathLaw s) (k : Traffic s t) : PathLaw t := by
  cases k with
  | hear ctx _ => exact h.of_changes (changes_setRadio _ _)
  | failed => exact h
  | foreign => exact h
  | revise n revised => exact h.setNbr n revised.state
  | look q => exact h.frameLookup q
  | drop why => exact h.of_changes (changes_countDiscard _ _)
  | deliver ing cls hops unrouted _ _ =>
    exact (h.of_changes (changes_allocate _ _ ing _ cls hops _)).of_changes (changes_appendDelivery _ _ unrouted)
  | relay ing cls _ _ _ _ _ _ _ => exact (h.of_changes (changes_allocate _ _ ing _ cls _ _)).appendQueue _ _

theorem PathLaw.moves {s t : State} (h : PathLaw s) (run : Moves s t) : PathLaw t := run_keeps (P := PathLaw) (fun _ _ => PathLaw.move) h run

theorem PathLaw.travels {s t : State} (h : PathLaw s) (run : Travels s t) : PathLaw t :=
  run_keeps (P := PathLaw) (fun _ _ => PathLaw.traffic) h run

/-! ### Requests -/

theorem PathLaw.reply {s : State} (h : PathLaw s) (k : Byte) (c : ResultCode) (b : ReplyBody) : PathLaw (s.reply k c b) := h

theorem PathLaw.enrol {s : State} (h : PathLaw s) (index : Byte) (nodeId : Half) (hint cap : Byte) :
    PathLaw (s.enrol index nodeId hint cap) := by
  unfold State.enrol
  split
  · next n sec _ _ =>
    split
    · split
      · next may =>
        have vacant : (s.nbr n).state = .vacant := by
          simp only [State.mayEnrol, Bool.and_eq_true, beq_iff_eq] at may
          exact may.1.2
        have unnamed : ∀ i r, s.entry i = some r → r.action ≠ .forward n :=
          fun i r e action => ((h i r e).1 n action).1 vacant
        intro i r e
        obtain ⟨hop, parked⟩ := h i r e
        refine ⟨fun m action => ?_, parked⟩
        have other : m ≠ n := fun e' => unnamed i r e (e' ▸ action)
        have same : ((s.setNbr n (Nbr.enrolled nodeId.toNat sec (capTaken cap).1)).nbr m) = s.nbr m := by
          rw [State.nbr_setNbr, if_neg other]
        exact same ▸ hop m action
      · exact h
    · exact h
  · exact h

/-- The record of `n` may become VACANT where no entry names `n`. -/
theorem PathLaw.setNbr_vacant {s : State} (h : PathLaw s) {n : NbrIdx} (unnamed : ∀ i r, s.entry i = some r → r.action ≠ .forward n) :
    PathLaw (s.setNbr n Nbr.vacant) := by
  intro i r e
  obtain ⟨hop, parked⟩ := h i r e
  refine ⟨fun m action => ?_, parked⟩
  rw [State.nbr_setNbr, if_neg fun e' : m = n => unnamed i r e (e' ▸ action)]
  exact hop m action

/-- The retire before its record goes: entries freed, queue discarded, contexts and alignment state cleared. -/
def State.retiring (s : State) (n : NbrIdx) : State :=
  let s := s.freeEntries (hopsTo n)
  let s := (s.discardQueue n).setRadio (s.radio.retire n)
  if s.sched.sync = some n then s.setSync none else s

theorem State.retire_eq (s : State) (n : NbrIdx) :
    s.retire n = ((s.retiring n).setNbr n Nbr.vacant).post (.link n) (.link n (s.nbr n).nodeId .vacant .retire none none none) none :=
  rfl

/-- What of the retire does not touch path table or records. -/
def clearingPieces : List Piece := [.frames, .pool, .discards, .queues, .radio] ++ syncPieces

theorem changes_retiring (s : State) (n : NbrIdx) : Changes clearingPieces (s.freeEntries (hopsTo n)) (s.retiring n) := by
  have emptied := ((changes_discardQueue (s.freeEntries (hopsTo n)) n).mono (qs := clearingPieces) (by decide)).andThen
    (changes_setRadio _ ((s.freeEntries (hopsTo n)).radio.retire n))
  unfold State.retiring
  dsimp only
  split
  · exact emptied.andThen (changes_setSync _ none)
  · exact emptied

/-- After the retire no entry names the neighbour (R60). -/
theorem State.unnamed_retiring {s : State} {n : NbrIdx} {i : EntryIdx} {r : Route} (e : (s.retiring n).entry i = some r) :
    r.action ≠ .forward n := by
  intro action
  rw [State.entry_eq (changes_retiring s n .entries rfl), State.entry_freeEntries] at e
  split at e
  · cases e
  · next kept => exact kept (by rw [e]; exact decide_eq_true action)

theorem PathLaw.retire {s : State} (h : PathLaw s) (n : NbrIdx) : PathLaw (s.retire n) := by
  have cleared : PathLaw (s.retiring n) := (h.freeEntries (hopsTo n)).of_changes (changes_retiring s n)
  rw [State.retire_eq]
  exact (cleared.setNbr_vacant fun i r e => State.unnamed_retiring e).of_changes (changes_post _ _ _ _)

/-- A write resolved against the states of the neighbours fits (R52). -/
theorem State.fits_resolved {s : State} {r : Route} (usable : s.hopUsable r.action = true) (state : r.state = s.liveState r.action) :
    r.Fits fun n => (s.nbr n).state := by
  cases action : r.action with
  | forward n =>
    rw [action] at usable state
    have enrolled : (s.nbr n).state ≠ .vacant := by simpa [State.hopUsable] using usable
    by_cases up : (s.nbr n).state = .up
    · simp only [State.liveState, up, if_true] at state
      exact Route.fits_of_hop action enrolled (fun _ => up) (by simp [state])
    · simp only [State.liveState, up, if_false] at state
      exact Route.fits_of_hop action enrolled (by simp [state]) fun _ => up
  | deliver =>
    rw [action] at state
    refine ⟨fun n no => ?_, fun no => ?_⟩
    · simp [action] at no
    · simp [state, State.liveState] at no
  | discard =>
    rw [action] at state
    refine ⟨fun n no => ?_, fun no => ?_⟩
    · simp [action] at no
    · simp [state, State.liveState] at no

theorem State.fits_routeFor {s : State} {w : WantedEntry} (usable : s.hopUsable w.action = true) :
    (s.routeFor w).Fits fun n => (s.nbr n).state := by
  cases barred : w.barred with
  | false => exact State.fits_resolved usable (by simp [State.routeFor, barred])
  | true =>
    refine Route.fits_barred (by simp [State.routeFor, barred]) fun n action => ?_
    have forward : w.action = .forward n := action
    simpa [forward, State.hopUsable] using usable

theorem PathLaw.storeRoute {s : State} (h : PathLaw s) (k : Byte) (i : EntryIdx) {w : WantedEntry}
    (usable : s.hopUsable w.action = true) : PathLaw (s.storeRoute k i w) := by
  have stored := h.setEntry i (e := some (s.routeFor w)) fun r e => Option.some.inj e ▸ State.fits_routeFor usable
  exact stored

theorem PathLaw.entryWrite {s : State} (h : PathLaw s) (index : Half) (e : CarriedEntry) : PathLaw (s.entryWrite index e) := by
  unfold State.entryWrite
  split
  · exact h
  · split
    · exact h
    · split
      · next usable => exact h.storeRoute _ _ usable
      · exact h

theorem PathLaw.entryPlace {s : State} (h : PathLaw s) (e : CarriedEntry) : PathLaw (s.entryPlace e) := by
  unfold State.entryPlace
  split
  · exact h
  · split
    · next usable =>
      split
      · exact h
      · exact h.storeRoute _ _ usable
    · exact h

/-- The next hop of an entry that stands is enrolled. -/
theorem PathLaw.hopUsable {s : State} (h : PathLaw s) {i : EntryIdx} {r : Route} (entry : s.entry i = some r) :
    s.hopUsable r.action = true := by
  cases action : r.action with
  | forward n => simpa [State.hopUsable] using ((h i r entry).1 n action).1
  | deliver => rfl
  | discard => rfl

theorem PathLaw.fits_unbar {s : State} (h : PathLaw s) {i : EntryIdx} {r : Route} (entry : s.entry i = some r) :
    (s.unbar r).Fits fun n => (s.nbr n).state := by
  unfold State.unbar
  split
  · have usable := h.hopUsable entry
    exact State.fits_resolved (r := { r with state := s.liveState r.action }) usable rfl
  · exact h i r entry

theorem PathLaw.entryStateAt {s : State} (h : PathLaw s) (i : EntryIdx) (target : TargetState) : PathLaw (s.entryStateAt i target) := by
  unfold State.entryStateAt
  split
  · have freed := h.setEntry i (e := none) fun _ e => nomatch e
    exact freed
  · exact h
  · next r entry =>
    have stored := h.setEntry i (e := some (s.unbar r)) fun _ e => Option.some.inj e ▸ h.fits_unbar entry
    exact stored
  · next r entry =>
    have barred := h.setEntry i (e := some { r with state := .barred }) fun _ e => Option.some.inj e ▸
      Route.fits_barred rfl fun n action => ((h i r entry).1 n action).1
    exact barred

theorem PathLaw.entryStateRequest {s : State} (h : PathLaw s) (target : Half) (st : Byte) :
    PathLaw (s.entryStateRequest target st) := by
  unfold State.entryStateRequest
  split
  · exact h
  · split
    · exact h
    · exact h
    · exact h
    · exact h.entryStateAt _ _

theorem PathLaw.tableClear {s : State} (h : PathLaw s) (scope : Byte) : PathLaw (s.tableClear scope) := by
  unfold State.tableClear
  split
  · exact h
  · next sc _ =>
    have freed := h.freeEntries (inScope sc)
    cases sc <;> exact freed

theorem PathLaw.retireRequest {s : State} (h : PathLaw s) (index : Byte) : PathLaw (s.retireRequest index) := by
  unfold State.retireRequest
  split
  · exact h
  · split
    · exact h
    · exact h.retire _

theorem PathLaw.confirm {s : State} (h : PathLaw s) (index : Byte) : PathLaw (s.confirm index) := by
  unfold State.confirm
  split
  · exact h
  · next n _ =>
    split
    · next held =>
      have moved := h.moves (moves_confirm held)
      exact moved
    · exact h

theorem PathLaw.query {s : State} (h : PathLaw s) (index clear : Byte) : PathLaw (s.query index clear) := by
  unfold State.query
  split
  · next n c _ _ =>
    cases c
    · exact h
    · have cleared : PathLaw (s.modNbr n fun r => { r with counters := NbrCounters.zero }) := h.setNbr n rfl
      exact cleared
  · exact h

theorem PathLaw.frameSend {s : State} (h : PathLaw s) (dest : Half) (cls hops : Byte) (payload : List Byte) :
    PathLaw (s.frameSend dest cls hops payload) := by
  obtain ⟨t, reply, run, e⟩ := travels_frameSend s dest cls hops payload
  rw [e]
  have sent := h.travels run
  exact sent

/-! ### Starts -/

/-- Every neighbour that stays enrolled through a warm restart is SEEKING. -/
theorem Nbr.warm_state (r : Nbr) : r.warm.state = if r.state = .vacant then .vacant else .seeking := by
  unfold Nbr.warm
  split <;> rfl

theorem PathLaw.warmRestart {s : State} (h : PathLaw s) : PathLaw s.warmRestart := by
  have states : ∀ n, (s.warmRestart.nbr n).state = if (s.nbr n).state = .vacant then .vacant else .seeking := fun n =>
    (congrArg Nbr.state (Tab.look_each Nbr.warm s.mon.nbrs n)).trans (Nbr.warm_state _)
  refine PathLaw.of_fits states fun i r' e => ?_
  have e : warmEntry (s.entry i) = some r' := (Tab.look_each warmEntry s.path.entries i).symm.trans e
  cases entry : s.entry i with
  | none =>
    rw [entry] at e
    cases e
  | some r =>
    obtain ⟨hop, parked⟩ := h i r entry
    rw [entry] at e
    have forward : ∀ {r' : Route} {n : NbrIdx}, r.action = .forward n → r'.action = .forward n → r'.state ≠ .live →
        r'.Fits fun n => if (s.nbr n).state = .vacant then .vacant else .seeking := fun {r' n} was action down => by
      have enrolled := (hop n was).1
      refine Route.fits_of_hop action ?_ (fun live => absurd live down) fun _ => ?_ <;> simp [enrolled]
    cases action : r.action with
    | forward n =>
      simp only [warmEntry, action] at e
      split at e
      · obtain rfl := Option.some.inj e
        exact forward action rfl (by simp)
      · next down =>
        obtain rfl := Option.some.inj e
        exact forward action action down
    | deliver =>
      simp only [warmEntry, action, Option.some.injEq] at e
      subst e
      exact ⟨fun n no => by simp [action] at no, parked⟩
    | discard =>
      simp only [warmEntry, action, Option.some.injEq] at e
      subst e
      exact ⟨fun n no => by simp [action] at no, parked⟩

theorem PathLaw.restartRequest {s : State} (h : PathLaw s) (form : Byte) : PathLaw (s.restartRequest form) := by
  unfold State.restartRequest
  split
  · exact h
  · exact h.warmRestart
  · exact h

theorem pathLaw_cold (cause : StartCause) (level : Bool) (pending : List Instr) : PathLaw (State.cold cause level pending) := by
  intro i r e
  have e : (Tab.all 256 none).look i = some r := e
  rw [Tab.look_all] at e
  cases e

theorem PathLaw.completeStart {s : State} (h : PathLaw s) : PathLaw s.completeStart := by
  unfold State.completeStart
  split
  · exact h
  · exact pathLaw_cold _ _ _

/-! ### Events -/

theorem PathLaw.settleOne {s : State} (h : PathLaw s) (n : NbrIdx) (list : List Seq) (hq : Handle × Seq) :
    PathLaw (settleOne n list s hq) := by
  unfold Machine.settleOne
  split
  · exact PathLaw.setNbr ((h.of_changes (changes_setQueue s n _)).of_changes (changes_release _ _)) n rfl
  · have raised : PathLaw (s.modCounters n fun c => { c with retries := bump 65535 c.retries }) := h.setNbr n rfl
    unfold State.retryFrame
    dsimp only
    split
    · exact raised
    · split
      · exact (raised.of_changes (changes_setQueue _ n _)).of_changes (changes_discard _ _ _)
      · exact raised.of_changes (changes_setFrame _ _ _)

theorem PathLaw.settle {s : State} (h : PathLaw s) (n : NbrIdx) (set : List (Handle × Seq)) (list : List Seq) :
    PathLaw (s.settle n set list) :=
  PathLaw.setNbr (foldl_keeps (Machine.settleOne n list) (fun _ hq h => h.settleOne n list hq) set h) n rfl

theorem PathLaw.slotEnd {s : State} (h : PathLaw s) : PathLaw s.slotEnd :=
  slotEnd_keeps (fun _ _ => PathLaw.move) (fun _ _ h k => h.of_changes k) (fun _ _ _ _ h => h) (fun _ _ h _ => h) h
    fun _ n set list _ _ _ => h.settle n set list

theorem PathLaw.boundary {s : State} (h : PathLaw s) : PathLaw s.boundary :=
  boundary_keeps (fun _ _ h _ => h) (fun _ h => h) (fun _ h => h.of_changes (changes_decideStaged _)) (fun _ h => h.moves (moves_ageSeeking _))
    (fun _ h => h.of_changes (changes_boundaryTrigger _)) h

/-- A law kept by the owner of a request, and of no concern to the phase of the transaction, is kept by the request. -/
theorem request_keeps {P : State → Prop} {c : Instr} {s t : State} {owner : State → State} (next : exec c s = .next t)
    (hc : work c = .request owner) (spent : P s → P (s.setPhase .spent)) (done : ∀ u, P u → P (owner u)) (h : P s) : P t := by
  obtain ⟨-, rfl⟩ | ⟨-, rfl⟩ := exec_request next hc
  · exact h
  · exact done _ (spent h)

theorem PathLaw.exec {c : Instr} {s t : State} (h : PathLaw s) (next : exec c s = .next t) : PathLaw t := by
  have asked : ∀ {owner}, work c = .request owner → (∀ u, PathLaw u → PathLaw (owner u)) → PathLaw t :=
    fun hc done => request_keeps next hc (fun h => h) done h
  cases c with
  | neighbourEnrol index nodeId hint cap => exact asked rfl fun _ h => h.enrol index nodeId hint cap
  | neighbourRetire index => exact asked rfl fun _ h => h.retireRequest index
  | neighbourConfirm index => exact asked rfl fun _ h => h.confirm index
  | neighbourQuery index clear => exact asked rfl fun _ h => h.query index clear
  | entryWrite index e => exact asked rfl fun _ h => h.entryWrite index e
  | entryPlace e => exact asked rfl fun _ h => h.entryPlace e
  | entryState target st => exact asked rfl fun _ h => h.entryStateRequest target st
  | tableClear scope => exact asked rfl fun _ h => h.tableClear scope
  | frameSend dest cls hops payload => exact asked rfl fun _ h => h.frameSend dest cls hops payload
  | restartWarm => exact asked rfl fun _ h => h.restartRequest 1
  | restartCold => exact asked rfl fun _ h => h.restartRequest 0
  | restartRange form => exact asked rfl fun _ h => h.restartRequest form
  | coldStartCompletion => exact exec_event next rfl ▸ h.completeStart
  | rxFrameArrival bytes code =>
    exact exec_event next rfl ▸ h.travels (travels_rxArrival s bytes code)
  | slotEnd => exact exec_event next rfl ▸ h.slotEnd
  | superframeBoundary => exact exec_event next rfl ▸ h.boundary
  | _ => exact h.of_changes (changes_exec next) rfl rfl

end Sys2Proof.Machine

namespace Sys2Proof.Proofs

open Sys2Proof Sys2Proof.Machine

/-- Settles O55: parking and reviving restore what a change of state breaks, a write resolves LIVE by the next hop's state, and a
retire frees the entries before it vacates the record. -/
theorem stepsKeepThePathTable : Obligations.StepsKeepThePathTable :=
  fun _ _ h next => step_keeps (fun _ _ h => h) (fun _ _ _ h next => PathLaw.exec h next) h next

end Sys2Proof.Proofs
end

section
/-! The page memory under every command: each page is free or held by one record, and the memory keeps its canonical form (R62, R65). -/

namespace Sys2Proof.Machine

open Sys2Proof

/-! ### The pages of one record -/

/-- The pages that a frame record holds; a free record holds none. -/
def heldBy : Option FrameRec → List Nat
  | none => []
  | some f => f.pages

theorem FrameStore.pagesInUse_eq (st : FrameStore) : st.pagesInUse = st.frames.toList.flatMap heldBy :=
  congrArg (List.flatMap · st.frames.toList) (funext fun f => by cases f <;> rfl)

theorem FrameStore.heldPages_eq (st : FrameStore) : st.heldPages = st.pagesInUse.length := by
  rw [st.pagesInUse_eq, List.length_flatMap]
  exact congrArg (fun g => (st.frames.toList.map g).sum) (funext fun f => by cases f <;> rfl)

/-- One element of a list replaced: what it contributed goes, what its successor contributes comes. -/
theorem List.perm_flatMap_set {α β : Type} [BEq β] [LawfulBEq β] (f : α → List β) (l : List α) {i : Nat} (hi : i < l.length) (x : α) :
    ((l.set i x).flatMap f ++ f l[i]).Perm (l.flatMap f ++ f x) := by
  have whole : l.flatMap f = (l.take i ++ l[i] :: l.drop (i + 1)).flatMap f := by simp
  rw [whole, List.set_eq_take_append_cons_drop, if_pos hi, List.perm_iff_count]
  intro b
  simp only [List.flatMap_append, List.flatMap_cons, List.count_append]
  omega

theorem FrameStore.pagesInUse_put (st : FrameStore) (h : Handle) (x : Option FrameRec) :
    (({ st with frames := st.frames.put h x } : FrameStore).pagesInUse ++ heldBy (st.frames.look h)).Perm
      (st.pagesInUse ++ heldBy x) := by
  rw [FrameStore.pagesInUse_eq, st.pagesInUse_eq]
  have replaced := List.perm_flatMap_set heldBy st.frames.toList (i := h.val) (by simp) x
  simpa [Tab.put, Tab.look, Vector.toList_set] using replaced

/-! ### The page law -/

/-- The law is kept where the records and the pool stay. -/
theorem PageLaw.of_store {s t : State} (h : PageLaw s) (frames : t.store.frames = s.store.frames) (pool : t.store.pool = s.store.pool) :
    PageLaw t := by
  obtain ⟨all, lengths⟩ := h
  refine ⟨?_, fun j f e => lengths j f (State.frame_eq frames j ▸ e)⟩
  rw [FrameStore.pagesInUse_eq, frames, pool, ← FrameStore.pagesInUse_eq]
  exact all

theorem PageLaw.of_changes {s t : State} {ps : List Piece} (h : PageLaw s) (k : Changes ps s t)
    (frames : ps.contains .frames = false := by rfl) (pool : ps.contains .pool = false := by rfl) : PageLaw t :=
  h.of_store (k .frames frames) (k .pool pool)

/-- One record replaced: the law is kept where record and pool together hold the pages they held. -/
theorem PageLaw.put {s t : State} (h : PageLaw s) {j : Handle} {x : Option FrameRec}
    (frames : t.store.frames = s.store.frames.put j x)
    (pages : (heldBy x ++ t.store.pool).Perm (heldBy (s.frame j) ++ s.store.pool))
    (length : ∀ f, x = some f → f.pages.length = pagesFor f.len) : PageLaw t := by
  obtain ⟨all, lengths⟩ := h
  constructor
  · refine List.Perm.trans ?_ all
    have replaced := s.store.pagesInUse_put j x
    rw [FrameStore.pagesInUse_eq, frames]
    rw [FrameStore.pagesInUse_eq] at replaced
    rw [List.perm_iff_count] at replaced pages ⊢
    intro p
    have at_p := replaced p
    have pool_p := pages p
    simp only [List.count_append] at at_p pool_p ⊢
    have same : heldBy (s.frame j) = heldBy (s.store.frames.look j) := rfl
    rw [same] at pool_p
    omega
  · intro i f e
    have e : (s.store.frames.put j x).look i = some f := frames ▸ e
    rw [Tab.look_put] at e
    split at e
    · exact length f e
    · exact lengths i f e

theorem PageLaw.setFrame_of_pages {s : State} (h : PageLaw s) (j : Handle) (x : Option FrameRec)
    (pages : heldBy x = heldBy (s.frame j)) (length : ∀ f, x = some f → f.pages.length = pagesFor f.len) :
    PageLaw (s.setFrame j x) :=
  h.put rfl (by rw [pages]; exact List.Perm.refl _) length

/-- A record changed in fields other than its pages and its length keeps the law. -/
theorem PageLaw.refit {s : State} (h : PageLaw s) (j : Handle) {g : FrameRec → FrameRec} (pages : ∀ f, (g f).pages = f.pages)
    (len : ∀ f, (g f).len = f.len) : PageLaw (s.setFrame j ((s.frame j).map g)) := by
  cases e : s.frame j with
  | none => exact h.setFrame_of_pages j none (by rw [e]) fun _ no => nomatch no
  | some f =>
    refine h.setFrame_of_pages j (some (g f)) (by rw [e]; exact pages f) fun f' e' => ?_
    obtain rfl := Option.some.inj e'
    rw [pages, len]
    exact h.2 j f e

theorem PageLaw.release {s : State} (h : PageLaw s) (j : Handle) : PageLaw (s.release j) := by
  cases e : s.frame j with
  | none =>
    rw [State.release_none e]
    exact h
  | some f =>
    rw [State.release_some e]
    refine h.put (j := j) (x := none) rfl ?_ fun _ no => nomatch no
    rw [e]
    exact List.perm_append_comm (l₁ := s.store.pool) (l₂ := f.pages)

theorem PageLaw.discard {s : State} (h : PageLaw s) (why : Reason) (j : Handle) : PageLaw (s.discard why j) :=
  (h.release j).of_changes (changes_countDiscard _ why)

theorem PageLaw.appendQueue {s : State} (h : PageLaw s) (m : NbrIdx) (j : Handle) : PageLaw (s.appendQueue m j) := by
  have refitted := h.refit j (g := fun f => { f with place := .queue m, seq := some (s.nbr m).txSeq, retries := some 0, unrouted := none })
    (fun _ => rfl) fun _ => rfl
  exact refitted

theorem PageLaw.appendDelivery {s : State} (h : PageLaw s) (j : Handle) (u : Bool) : PageLaw (s.appendDelivery j u) := by
  have refitted := h.refit j (g := fun f => { f with place := .delivery, seq := none, retries := none, unrouted := some u })
    (fun _ => rfl) fun _ => rfl
  exact refitted

/-- The pages in use and the pool make up 160. -/
theorem PageLaw.pool_length {s : State} (h : PageLaw s) : s.store.pool.length = s.store.freePages := by
  have total := h.1.length_eq
  rw [List.length_append, List.length_range] at total
  rw [FrameStore.freePages, FrameStore.heldPages_eq]
  omega

/-- The handle that an allocation takes is free, and the pages suffice. -/
theorem FrameStore.allocHandle_some {st : FrameStore} {len : Nat} {h : Handle} (e : st.allocHandle len = some h) :
    pagesFor len ≤ st.freePages ∧ st.frames.look h = none := by
  unfold FrameStore.allocHandle at e
  split at e
  · next room => exact ⟨room, Option.isNone_iff_eq_none.1 (Tab.lowest_eq_some.1 e).1⟩
  · cases e

theorem PageLaw.allocate {s : State} (h : PageLaw s) {j : Handle} {payload : List Byte}
    (room : s.store.allocHandle payload.length = some j) (ing : Ingress) (dest : BitVec 12) (cls : BitVec 3) (hops : BitVec 4) :
    PageLaw (s.allocate j ing dest cls hops payload) := by
  obtain ⟨enough, free⟩ := FrameStore.allocHandle_some room
  have free : s.frame j = none := free
  rw [← h.pool_length] at enough
  refine h.put (j := j) rfl ?_ fun f e => ?_
  · rw [free]
    exact takePages_perm _ _ _ enough
  · obtain rfl := Option.some.inj e
    exact takePages_length _ _ _

theorem PageLaw.rescueOne {acc : State × Rescue} (h : PageLaw acc.1) (j : Handle) : PageLaw (rescueOne acc j).1 := by
  unfold Machine.rescueOne
  split
  · exact h
  · next rec _ =>
    have looked := h.of_changes (changes_frameLookup acc.1 { dest := rec.dest, cls := rec.cls, ing := rec.ing })
    dsimp only
    split
    · exact looked.discard _ _
    · split
      · exact looked.discard _ _
      · exact looked.appendDelivery _ _
      · split
        · exact looked.discard _ _
        · split
          · exact looked.appendQueue _ _
          · exact looked.discard _ _

theorem PageLaw.rescue {s : State} (h : PageLaw s) (n : NbrIdx) : PageLaw (s.rescue n).1 :=
  foldl_keeps (P := fun acc => PageLaw acc.1) Machine.rescueOne (fun _ f h => h.rescueOne f) (s.queue n)
    (a := (s.setQueue n [], ⟨0, 0⟩)) (h.of_changes (changes_setQueue s n []))

theorem PageLaw.changeState {s : State} (h : PageLaw s) (n : NbrIdx) (new : LinkState) (cause : LinkCause) :
    PageLaw (s.changeState n new cause) := by
  have parked := (h.of_changes (changes_setNbr s n { (s.nbr n).clearRuns with state := new })).of_changes
    (changes_parkFor _ n (s.nbr n).state new)
  unfold State.changeState State.afterChange
  dsimp only
  split
  · exact ((parked.rescue n).of_changes (changes_lossTrigger _)).of_changes (changes_post _ _ _ _)
  · exact parked.of_changes (changes_post _ _ _ _)

theorem PageLaw.move {s t : State} (h : PageLaw s) (k : Move s t) : PageLaw t := by
  cases k with
  | revise n _ => exact h.of_changes (changes_setNbr s n _)
  | change n new cause _ _ _ => exact h.changeState n new cause
  | tell n cause => exact h.of_changes (changes_post s _ _ _)
  | grow => exact h.of_store rfl rfl
  | measure b => exact h.of_changes (changes_measure s b)

theorem PageLaw.traffic {s t : State} (h : PageLaw s) (k : Traffic s t) : PageLaw t := by
  cases k with
  | hear ctx _ => exact h.of_changes (changes_setRadio _ _)
  | failed => exact h
  | foreign => exact h
  | revise n _ => exact h.of_changes (changes_setNbr s n _)
  | look q => exact h.of_changes (changes_frameLookup s q)
  | drop why => exact h.of_changes (changes_countDiscard _ _)
  | deliver ing cls hops unrouted room _ => exact (h.allocate room ing _ cls hops).appendDelivery _ unrouted
  | relay ing cls room _ _ _ _ _ _ => exact (h.allocate room ing _ cls _).appendQueue _ _

theorem PageLaw.settleOne {s : State} (h : PageLaw s) (n : NbrIdx) (list : List Seq) (hq : Handle × Seq) :
    PageLaw (settleOne n list s hq) := by
  unfold Machine.settleOne
  split
  · exact ((h.of_changes (changes_setQueue s n _)).release _).of_changes (changes_setNbr _ n _)
  · have raised : PageLaw (s.modCounters n fun c => { c with retries := bump 65535 c.retries }) :=
      h.of_changes (changes_setNbr s n _)
    unfold State.retryFrame
    dsimp only
    split
    · exact raised
    · next f entry =>
      split
      · exact (raised.of_changes (changes_setQueue _ n _)).discard _ _
      · refine raised.setFrame_of_pages _ _ (by rw [entry]; rfl) fun f' e => ?_
        obtain rfl := Option.some.inj e
        exact raised.2 hq.1 f entry

theorem PageLaw.settle {s : State} (h : PageLaw s) (n : NbrIdx) (set : List (Handle × Seq)) (list : List Seq) :
    PageLaw (s.settle n set list) :=
  (foldl_keeps (Machine.settleOne n list) (fun _ hq h => h.settleOne n list hq) set h).of_changes (changes_setNbr _ n _)

/-! ### Storage: the pages and the memory -/

/-- The two laws of the storage. -/
def Storage (s : State) : Prop := MemoryLaw s ∧ PageLaw s

theorem Storage.of_changes {s t : State} {ps : List Piece} (h : Storage s) (k : Changes ps s t)
    (frames : ps.contains .frames = false := by rfl) (pool : ps.contains .pool = false := by rfl)
    (mem : ps.contains .mem = false := by rfl) : Storage t :=
  ⟨(congrArg Memory.wf (k .mem mem)).trans h.1, h.2.of_changes k frames pool⟩

/-- Where the memory stays, the page law is all that is to be shown. -/
theorem Storage.of_pages {s t : State} {ps : List Piece} (h : Storage s) (k : Changes ps s t) (pages : PageLaw t)
    (mem : ps.contains .mem = false := by rfl) : Storage t := ⟨(congrArg Memory.wf (k .mem mem)).trans h.1, pages⟩

theorem Storage.move {s t : State} (h : Storage s) (k : Move s t) : Storage t := h.of_pages (changes_move k) (h.2.move k)

theorem Storage.traffic {s t : State} (h : Storage s) (k : Traffic s t) : Storage t := by
  have pages := h.2.traffic k
  refine ⟨?_, pages⟩
  cases k with
  | deliver _ _ _ _ _ _ => exact Memory.wf_writePages h.1 _ _
  | relay _ _ _ _ _ _ _ _ _ => exact Memory.wf_writePages h.1 _ _
  | hear _ _ => exact h.1
  | failed => exact h.1
  | foreign => exact h.1
  | revise _ _ => exact h.1
  | look q => exact (congrArg Memory.wf (changes_frameLookup s q .mem rfl)).trans h.1
  | drop _ => exact h.1

theorem Storage.moves {s t : State} (h : Storage s) (run : Moves s t) : Storage t :=
  run_keeps (P := Storage) (fun _ _ => Storage.move) h run

theorem Storage.travels {s t : State} (h : Storage s) (run : Travels s t) : Storage t :=
  run_keeps (P := Storage) (fun _ _ => Storage.traffic) h run

theorem Storage.discard {s : State} (h : Storage s) (why : Reason) (j : Handle) : Storage (s.discard why j) :=
  h.of_pages (changes_discard s why j) (h.2.discard why j)

theorem Storage.retireRequest {s : State} (h : Storage s) (index : Byte) : Storage (s.retireRequest index) := by
  unfold State.retireRequest
  split
  · exact h
  · next n _ =>
    split
    · exact h
    · have freed := h.of_changes (changes_freeEntries s (hopsTo n))
      have emptied : Storage ((s.freeEntries (hopsTo n)).discardQueue n) :=
        (foldl_keeps (fun s j => s.discard .retired j) (fun _ j h => h.discard .retired j) _ freed).of_changes
          (changes_setQueue _ n [])
      have quiet := emptied.of_changes (changes_setRadio _ ((s.freeEntries (hopsTo n)).radio.retire n))
      have cleared : Storage (s.retiring n) := by
        unfold State.retiring
        dsimp only
        split
        · exact quiet.of_changes (changes_setSync _ none)
        · exact quiet
      have vacated : Storage (s.retire n) :=
        (cleared.of_changes (changes_setNbr _ n Nbr.vacant)).of_changes (changes_post _ (.link n) _ none)
      exact vacated

theorem Storage.confirm {s : State} (h : Storage s) (index : Byte) : Storage (s.confirm index) := by
  unfold State.confirm
  split
  · exact h
  · split
    · next held =>
      have moved := h.moves (moves_confirm held)
      exact moved
    · exact h

theorem Storage.frameSend {s : State} (h : Storage s) (dest : Half) (cls hops : Byte) (payload : List Byte) :
    Storage (s.frameSend dest cls hops payload) := by
  obtain ⟨t, reply, run, e⟩ := travels_frameSend s dest cls hops payload
  rw [e]
  have sent := h.travels run
  exact sent

/-- The cold storage: every record free, every page in the pool. -/
theorem storage_of_cold {s : State} (cold : s.store = FrameStore.cold) : Storage s := by
  refine ⟨by rw [MemoryLaw, cold]; rfl, ?_, fun j f e => ?_⟩
  · have none_held : FrameStore.cold.pagesInUse = [] := by
      rw [FrameStore.pagesInUse_eq, List.flatMap_eq_nil_iff]
      intro f hf
      have : f = none := by simpa [FrameStore.cold, Tab.all] using hf
      rw [this]
      rfl
    rw [cold, none_held]
    exact List.Perm.refl _
  · have e : (Tab.all 64 none).look j = some f := by
      have : s.store.frames.look j = some f := e
      rwa [cold] at this
    rw [Tab.look_all] at e
    cases e

theorem Storage.restartRequest {s : State} (h : Storage s) (form : Byte) : Storage (s.restartRequest form) := by
  unfold State.restartRequest
  split
  · exact h
  · exact storage_of_cold rfl
  · exact h

theorem Storage.completeStart {s : State} (h : Storage s) : Storage s.completeStart := by
  unfold State.completeStart
  split
  · exact h
  · exact storage_of_cold rfl

theorem Storage.consume {s : State} (h : Storage s) (item : Item) (c : Carry) : Storage (s.consume item c) := by
  cases item with
  | reply => exact h
  | notice src =>
    have taken : Storage (s.setLink { s.link with notices := consumeNotice src c s.link.notices }) := h
    unfold State.consume
    dsimp only
    split
    · exact taken.of_changes (changes_releaseScanner _)
    · exact taken
  | frame j =>
    have taken : Storage { s with store := { s.store with delivery := s.store.delivery.erase j } } := h
    exact taken.of_pages (changes_release _ j) (taken.2.release j)
  | empty => exact h

theorem Storage.completeRead {s : State} (h : Storage s) : Storage s.completeRead := by
  unfold State.completeRead
  split
  · exact (h.consume _ _).of_changes (changes_setPhase _ _)
  · exact h

theorem Storage.dropOversize {s : State} (h : Storage s) (cost body : Nat) (q : List Handle) :
    Storage (dropOversize cost body q s).1 := by
  induction q generalizing s with
  | nil => exact h
  | cons j rest ih =>
    unfold Machine.dropOversize
    split
    · exact ih (h.discard .airtime j)
    · exact h

theorem Storage.openTx {s : State} (h : Storage s) (n : NbrIdx) : Storage (s.openTx n) := by
  unfold State.openTx
  dsimp only
  split
  · split
    · exact h
    · have chosen := fun cost => (h.dropOversize cost (slotBody s.sched.slotLen) (s.queue n)).of_changes
        (changes_setQueue _ n (Machine.dropOversize cost (slotBody s.sched.slotLen) (s.queue n) s).2)
      split
      · exact (chosen _).of_changes (changes_setRadio _ _)
      · exact (chosen _).of_changes (changes_setRadio _ _)
  · exact h

theorem Storage.openOwner {s : State} (h : Storage s) (i : SlotIdx) (kind : SlotKind) : Storage (s.openOwner i kind) := by
  cases kind with
  | idle => exact h
  | tx n => exact h.openTx n
  | rx n =>
    unfold State.openOwner State.openRx
    dsimp only
    split <;> exact h
  | beacon sec =>
    unfold State.openOwner State.openBeacon
    dsimp only
    split <;> exact h
  | scan =>
    unfold State.openOwner State.openScan
    dsimp only
    split
    · split <;> exact h
    · exact h

theorem Storage.slotStart {s : State} (h : Storage s) : Storage s.slotStart := by
  unfold State.slotStart
  split
  · next i _ =>
    have opened : Storage (s.setSched (s.sched.startSlot i)) := h
    exact opened.openOwner i _
  · exact h

theorem Storage.slotEnd {s : State} (h : Storage s) : Storage s.slotEnd :=
  slotEnd_keeps (fun _ _ => Storage.move) (fun _ _ h k => h.of_changes k) (fun _ _ _ _ h => h) (fun _ _ h _ => h) h fun _ n set list _ _ _ =>
    h.of_pages (changes_settle s n set list) (h.2.settle n set list)

theorem Storage.boundary {s : State} (h : Storage s) : Storage s.boundary :=
  boundary_keeps (fun _ _ h _ => h) (fun _ h => h) (fun _ h => h.of_changes (changes_decideStaged _))
    (fun _ h => h.moves (moves_ageSeeking _)) (fun _ h => h.of_changes (changes_boundaryTrigger _)) h

theorem Storage.exec {c : Instr} {s t : State} (h : Storage s) (next : exec c s = .next t) : Storage t := by
  have asked : ∀ {owner}, work c = .request owner → (∀ u, Storage u → Storage (owner u)) → Storage t :=
    fun hc done => request_keeps next hc (fun h => h) done h
  cases c with
  | neighbourRetire index => exact asked rfl fun _ h => h.retireRequest index
  | neighbourConfirm index => exact asked rfl fun _ h => h.confirm index
  | frameSend dest cls hops payload => exact asked rfl fun _ h => h.frameSend dest cls hops payload
  | restartWarm => exact asked rfl fun _ h => h.restartRequest 1
  | restartCold => exact asked rfl fun _ h => h.restartRequest 0
  | restartRange form => exact asked rfl fun _ h => h.restartRequest form
  | readCompletion => exact exec_event next rfl ▸ h.completeRead
  | coldStartCompletion => exact exec_event next rfl ▸ h.completeStart
  | rxFrameArrival bytes code => exact exec_event next rfl ▸ h.travels (travels_rxArrival s bytes code)
  | slotStart => exact exec_event next rfl ▸ h.slotStart
  | slotEnd => exact exec_event next rfl ▸ h.slotEnd
  | superframeBoundary => exact exec_event next rfl ▸ h.boundary
  | _ => exact h.of_changes (changes_exec next) rfl rfl rfl

end Sys2Proof.Machine

namespace Sys2Proof.Proofs

open Sys2Proof Sys2Proof.Machine

/-- Settles O54: an allocation takes the pages it holds from the pool, a release returns them, and no other operation on a record
touches its pages. -/
theorem stepsKeepTheStorage : Obligations.StepsKeepTheStorage :=
  fun _ _ memory pages next => step_keeps (P := Storage) (fun _ _ h => h) (fun _ _ _ h next => h.exec next) ⟨memory, pages⟩ next

end Sys2Proof.Proofs
end

section
/-! The ranges under every command: margins and accumulators (R4, R6), receive windows (R82), settings (R13) and counters (R33, R44,
R72, R135). -/

namespace Sys2Proof.Machine

open Sys2Proof

/-! ### The laws of one record and of the counters -/

/-- Every range and the window law of one neighbour record. -/
def Nbr.Sound (r : Nbr) : Prop := r.Ranged ∧ r.Windowed ∧ r.Counted

/-- The eight discard counters lie within their width (R72). -/
def Discards.InRange (d : Discards) : Prop :=
  d.retry ≤ 65535 ∧ d.airtime ≤ 65535 ∧ d.hops ≤ 65535 ∧ d.reflect ≤ 65535 ∧ d.queue ≤ 65535 ∧ d.noroute ≤ 65535
    ∧ d.retired ≤ 65535 ∧ d.action ≤ 65535

/-- The hit count of an entry lies within its width (R44). -/
def Tallied (e : Entry) : Prop := ∀ r, e = some r → r.hits ≤ 65535

/-- The laws of ranges together, block by block. -/
structure Ranges (s : State) : Prop where
  sound : ∀ n, (s.nbr n).Sound
  settings : s.mon.settings.InRange
  hits : ∀ i, Tallied (s.entry i)
  discards : s.store.discards.InRange
  checkFail : s.store.checkFail ≤ 65535
  foreign : s.store.foreign ≤ 65535
  ignored : s.scan.ignored ≤ 65535

theorem windowLaw_iff {s : State} : WindowLaw s ↔ ∀ n, (s.nbr n).Windowed := Iff.rfl

theorem ranges_iff {s : State} : MarginLaw s ∧ WindowLaw s ∧ SettingsLaw s ∧ CounterLaw s ↔ Ranges s := by
  constructor
  · rintro ⟨margins, windows, settings, hits, counted, discards, checkFail, foreign, ignored⟩
    exact ⟨fun n => ⟨margins n, windowLaw_iff.1 windows n, counted n⟩, settings, fun i r e => hits i r e, discards, checkFail,
      foreign, ignored⟩
  · rintro ⟨sound, settings, hits, discards, checkFail, foreign, ignored⟩
    exact ⟨fun n => (sound n).1, windowLaw_iff.2 fun n => (sound n).2.1, settings, fun i r e => hits i r e,
      fun n => (sound n).2.2, discards, checkFail, foreign, ignored⟩

theorem Nbr.Revised.sound {a b : Nbr} (h : a.Revised b) (k : a.Sound) : b.Sound :=
  ⟨h.ranged k.1, h.windowed k.2.1, h.counted k.2.2⟩

/-- A record without accumulator, margins, window and runs, and with counters at 0, is sound. -/
theorem Nbr.sound_blank {r : Nbr} (acc : r.acc = none) (margins : r.margins = Tab.all 6 none) (high : r.high = none)
    (seen : r.seen = []) (counted : r.Counted) : r.Sound := by
  refine ⟨⟨fun a e => ?_, fun sec x e => ?_⟩, ?_, counted⟩
  · rw [acc] at e
    cases e
  · rw [margins, Tab.look_all] at e
    cases e
  · unfold Nbr.Windowed
    rw [high]
    exact seen

theorem Nbr.sound_vacant : Nbr.vacant.Sound := Nbr.sound_blank rfl rfl rfl rfl (by simp [Nbr.Counted, Nbr.vacant])

theorem Nbr.sound_enrolled (id : Nat) (hint : Option Sector) (cap : Fin 4) : (Nbr.enrolled id hint cap).Sound :=
  Nbr.sound_blank rfl rfl rfl rfl (by simp [Nbr.Counted, Nbr.enrolled, Nbr.vacant])

theorem Nbr.sound_warm (r : Nbr) : r.warm.Sound := by
  unfold Nbr.warm
  split
  · exact Nbr.sound_vacant
  · exact Nbr.sound_blank rfl rfl rfl rfl (by simp [Nbr.Counted, Nbr.vacant])

theorem Nbr.sound_grow {r : Nbr} (h : r.Sound) : r.grow.Sound := by
  unfold Nbr.grow
  split
  · obtain ⟨ranged, windowed, fade, good, miss, -, counters⟩ := h
    exact ⟨ranged, windowed, fade, good, miss, bump_le _ _, counters⟩
  · exact h

/-- The record as it enters a state: runs at 0 (R22). -/
theorem Nbr.Sound.entering {r : Nbr} (h : r.Sound) (new : LinkState) : Nbr.Sound { r.clearRuns with state := new } := by
  obtain ⟨ranged, windowed, -, -, -, age, counters⟩ := h
  exact ⟨ranged, windowed, Nat.zero_le _, Nat.zero_le _, Nat.zero_le _, age, counters⟩

theorem Discards.raise_inRange {d : Discards} (h : d.InRange) (why : Reason) : (d.raise why).InRange := by
  obtain ⟨retry, airtime, hops, reflect, queue, noroute, retired, action⟩ := h
  cases why with
  | retry => exact ⟨bump_le _ _, airtime, hops, reflect, queue, noroute, retired, action⟩
  | airtime => exact ⟨retry, bump_le _ _, hops, reflect, queue, noroute, retired, action⟩
  | hops => exact ⟨retry, airtime, bump_le _ _, reflect, queue, noroute, retired, action⟩
  | reflect => exact ⟨retry, airtime, hops, bump_le _ _, queue, noroute, retired, action⟩
  | queue => exact ⟨retry, airtime, hops, reflect, bump_le _ _, noroute, retired, action⟩
  | noroute => exact ⟨retry, airtime, hops, reflect, queue, bump_le _ _, retired, action⟩
  | retired => exact ⟨retry, airtime, hops, reflect, queue, noroute, bump_le _ _, action⟩
  | action => exact ⟨retry, airtime, hops, reflect, queue, noroute, retired, bump_le _ _⟩

theorem tallied_none : Tallied none := fun _ e => nomatch e

theorem tallied_some {r : Route} (h : r.hits ≤ 65535) : Tallied (some r) := fun _ e => Option.some.inj e ▸ h

theorem Tallied.parkEntry {e : Entry} (h : Tallied e) (n : NbrIdx) : Tallied (parkEntry n e) := by
  unfold Machine.parkEntry
  split
  · exact tallied_none
  · split
    · have hits := h _ rfl
      exact tallied_some hits
    · exact h

theorem Tallied.unparkEntry {e : Entry} (h : Tallied e) (n : NbrIdx) : Tallied (unparkEntry n e) := by
  unfold Machine.unparkEntry
  split
  · exact tallied_none
  · split
    · have hits := h _ rfl
      exact tallied_some hits
    · exact h

theorem Tallied.warmEntry {e : Entry} (h : Tallied e) : Tallied (warmEntry e) := by
  unfold Machine.warmEntry
  split
  · exact tallied_none
  · split
    · split
      · have hits := h _ rfl
        exact tallied_some hits
      · exact h
    · exact h

/-! ### Single changes -/

theorem Ranges.of_changes {s t : State} {ps : List Piece} (h : Ranges s) (k : Changes ps s t)
    (nbrs : ps.contains .nbrs = false := by rfl) (settings : ps.contains .settings = false := by rfl)
    (entries : ps.contains .entries = false := by rfl) (discards : ps.contains .discards = false := by rfl)
    (checkFail : ps.contains .checkFail = false := by rfl) (foreign : ps.contains .foreign = false := by rfl)
    (ignored : ps.contains .ignored = false := by rfl) : Ranges t where
  sound n := State.nbr_eq (k .nbrs nbrs) n ▸ h.sound n
  settings := (k .settings settings).symm ▸ h.settings
  hits i := State.entry_eq (k .entries entries) i ▸ h.hits i
  discards := (k .discards discards).symm ▸ h.discards
  checkFail := (k .checkFail checkFail).le.trans h.checkFail
  foreign := (k .foreign foreign).le.trans h.foreign
  ignored := (k .ignored ignored).le.trans h.ignored

theorem Ranges.setNbr {s : State} (h : Ranges s) (n : NbrIdx) {r : Nbr} (sound : r.Sound) : Ranges (s.setNbr n r) where
  sound m := by
    rw [State.nbr_setNbr]
    split
    · exact sound
    · exact h.sound m
  settings := h.settings
  hits := h.hits
  discards := h.discards
  checkFail := h.checkFail
  foreign := h.foreign
  ignored := h.ignored

/-- Entries replaced by entries within their width. -/
theorem Ranges.setEntries {s t : State} (h : Ranges s) (k : Changes [.entries, .lastMatch] s t) (hits : ∀ i, Tallied (t.entry i)) :
    Ranges t where
  sound n := State.nbr_eq (k .nbrs rfl) n ▸ h.sound n
  settings := (k .settings rfl).symm ▸ h.settings
  hits := hits
  discards := (k .discards rfl).symm ▸ h.discards
  checkFail := (k .checkFail rfl).le.trans h.checkFail
  foreign := (k .foreign rfl).le.trans h.foreign
  ignored := (k .ignored rfl).le.trans h.ignored

theorem Ranges.setEntry {s : State} (h : Ranges s) (i : EntryIdx) {e : Entry} (tallied : Tallied e) : Ranges (s.setEntry i e) := by
  refine h.setEntries ((changes_setEntry s i e).mono (by decide)) fun j => ?_
  rw [State.entry_setEntry]
  split
  · exact tallied
  · exact h.hits j

theorem Ranges.freeEntries {s : State} (h : Ranges s) (freed : Entry → Bool) : Ranges (s.freeEntries freed) := by
  refine h.setEntries (changes_freeEntries s freed) fun i => ?_
  rw [State.entry_freeEntries]
  split
  · exact tallied_none
  · exact h.hits i

theorem Ranges.countDiscard {s : State} (h : Ranges s) (why : Reason) : Ranges (s.countDiscard why) where
  sound := h.sound
  settings := h.settings
  hits := h.hits
  discards := Discards.raise_inRange h.discards why
  checkFail := h.checkFail
  foreign := h.foreign
  ignored := h.ignored

theorem Ranges.discard {s : State} (h : Ranges s) (why : Reason) (j : Handle) : Ranges (s.discard why j) :=
  (h.of_changes (changes_release s j)).countDiscard why

/-- A trigger counts at most once that it was ignored (R139). -/
theorem State.trigger_ignored (s : State) :
    s.trigger.1.scan.ignored = s.scan.ignored ∨ s.trigger.1.scan.ignored = bump 65535 s.scan.ignored := by
  have restarted : s.restartScan.scan.ignored = s.scan.ignored := by
    unfold State.restartScan
    split <;> rfl
  unfold State.trigger
  split
  · exact .inl restarted
  · exact .inl rfl
  · exact .inl restarted
  · exact .inr rfl

theorem Ranges.trigger {s : State} (h : Ranges s) : Ranges s.trigger.1 := by
  have k := changes_trigger s
  have ignored : s.trigger.1.scan.ignored ≤ 65535 := by
    obtain e | e := s.trigger_ignored <;> rw [e]
    · exact h.ignored
    · exact bump_le _ _
  exact ⟨fun n => State.nbr_eq (k .nbrs rfl) n ▸ h.sound n, (k .settings rfl).symm ▸ h.settings,
    fun i => State.entry_eq (k .entries rfl) i ▸ h.hits i, (k .discards rfl).symm ▸ h.discards,
    (k .checkFail rfl).le.trans h.checkFail, (k .foreign rfl).le.trans h.foreign, ignored⟩

theorem Ranges.lossTrigger {s : State} (h : Ranges s) : Ranges s.lossTrigger := by
  unfold State.lossTrigger
  split
  · exact h.trigger
  · exact h

theorem Ranges.boundaryTrigger {s : State} (h : Ranges s) : Ranges s.boundaryTrigger := by
  unfold State.boundaryTrigger
  split
  · exact h.trigger
  · exact h

/-! ### Moves and traffic -/

theorem Ranges.frameLookup {s : State} (h : Ranges s) (q : Key) : Ranges (s.frameLookup q).2 := by
  obtain ⟨-, e⟩ | ⟨i, r, -, -, -, e⟩ := s.frameLookup_spec q <;> rw [e]
  · exact h
  · exact h.setEntry i (tallied_some (bump_le _ _))

theorem Ranges.appendQueue {s : State} (h : Ranges s) (m : NbrIdx) (j : Handle) : Ranges (s.appendQueue m j) := by
  have stored := h.setNbr m (r := { s.nbr m with txSeq := (s.nbr m).txSeq + 1 }) (h.sound m)
  exact ⟨stored.sound, stored.settings, stored.hits, stored.discards, stored.checkFail, stored.foreign, stored.ignored⟩

theorem Ranges.rescueOne {acc : State × Rescue} (h : Ranges acc.1) (j : Handle) : Ranges (rescueOne acc j).1 := by
  unfold Machine.rescueOne
  split
  · exact h
  · next rec _ =>
    have looked := h.frameLookup { dest := rec.dest, cls := rec.cls, ing := rec.ing }
    dsimp only
    split
    · exact looked.discard _ _
    · split
      · exact looked.discard _ _
      · exact looked.of_changes (changes_appendDelivery _ _ _)
      · split
        · exact looked.discard _ _
        · split
          · exact looked.appendQueue _ _
          · exact looked.discard _ _

theorem Ranges.rescue {s : State} (h : Ranges s) (n : NbrIdx) : Ranges (s.rescue n).1 :=
  foldl_keeps (P := fun acc => Ranges acc.1) Machine.rescueOne (fun _ f h => h.rescueOne f) (s.queue n)
    (a := (s.setQueue n [], ⟨0, 0⟩)) (h.of_changes (changes_setQueue s n []))

theorem Ranges.parkFor {s : State} (h : Ranges s) (n : NbrIdx) (old new : LinkState) : Ranges (s.parkFor n old new) := by
  refine h.setEntries ((changes_parkFor s n old new).mono (by decide)) fun i => ?_
  unfold State.parkFor
  split
  · rw [State.entry_park]
    exact (h.hits i).parkEntry n
  · split
    · rw [State.entry_unpark]
      exact (h.hits i).unparkEntry n
    · exact h.hits i

theorem Ranges.changeState {s : State} (h : Ranges s) (n : NbrIdx) (new : LinkState) (cause : LinkCause) :
    Ranges (s.changeState n new cause) := by
  have parked := (h.setNbr n ((h.sound n).entering new)).parkFor n (s.nbr n).state new
  unfold State.changeState State.afterChange
  dsimp only
  split
  · exact (parked.rescue n).lossTrigger.of_changes (changes_post _ _ _ _)
  · exact parked.of_changes (changes_post _ _ _ _)

theorem Ranges.move {s t : State} (h : Ranges s) (k : Move s t) : Ranges t := by
  cases k with
  | revise n revised => exact h.setNbr n (revised.sound (h.sound n))
  | change n new cause _ _ _ => exact h.changeState n new cause
  | tell n cause => exact h.of_changes (changes_post s _ _ _)
  | grow =>
    refine ⟨fun n => ?_, h.settings, h.hits, h.discards, h.checkFail, h.foreign, h.ignored⟩
    have grown : (s.mon.nbrs.each Nbr.grow).look n = (s.nbr n).grow := Tab.look_each _ _ _
    exact (congrArg Nbr.Sound grown).mpr (Nbr.sound_grow (h.sound n))
  | measure b => exact h.of_changes (changes_measure s b)

theorem Ranges.traffic {s t : State} (h : Ranges s) (k : Traffic s t) : Ranges t := by
  cases k with
  | hear ctx _ => exact h.of_changes (changes_setRadio _ _)
  | failed => exact ⟨h.sound, h.settings, h.hits, h.discards, bump_le _ _, h.foreign, h.ignored⟩
  | foreign => exact ⟨h.sound, h.settings, h.hits, h.discards, h.checkFail, bump_le _ _, h.ignored⟩
  | revise n revised => exact h.setNbr n (revised.sound (h.sound n))
  | look q => exact h.frameLookup q
  | drop why => exact h.countDiscard why
  | deliver ing cls hops unrouted _ _ =>
    exact (h.of_changes (changes_allocate _ _ ing _ cls hops _)).of_changes (changes_appendDelivery _ _ unrouted)
  | relay ing cls _ _ _ _ _ _ _ => exact (h.of_changes (changes_allocate _ _ ing _ cls _ _)).appendQueue _ _

theorem Ranges.moves {s t : State} (h : Ranges s) (run : Moves s t) : Ranges t :=
  run_keeps (P := Ranges) (fun _ _ => Ranges.move) h run

theorem Ranges.travels {s t : State} (h : Ranges s) (run : Travels s t) : Ranges t :=
  run_keeps (P := Ranges) (fun _ _ => Ranges.traffic) h run

/-! ### Settling -/

theorem Ranges.settleOne {s : State} (h : Ranges s) (n : NbrIdx) (list : List Seq) (hq : Handle × Seq) :
    Ranges (settleOne n list s hq) := by
  unfold Machine.settleOne
  split
  · have left := (h.of_changes (changes_setQueue s n ((s.queue n).erase hq.1))).of_changes (changes_release _ hq.1)
    refine left.setNbr n ?_
    obtain ⟨ranged, windowed, a, b, c, d, e, -, rest⟩ := left.sound n
    exact ⟨ranged, windowed, a, b, c, d, e, bump_le _ _, rest⟩
  · have raised : Ranges (s.modCounters n fun c => { c with retries := bump 65535 c.retries }) := by
      refine h.setNbr n ?_
      obtain ⟨ranged, windowed, a, b, c, d, e, f, -, rest⟩ := h.sound n
      exact ⟨ranged, windowed, a, b, c, d, e, f, bump_le _ _, rest⟩
    unfold State.retryFrame
    dsimp only
    split
    · exact raised
    · split
      · exact (raised.of_changes (changes_setQueue _ n _)).discard _ _
      · exact raised.of_changes (changes_setFrame _ _ _)

theorem Ranges.settle {s : State} (h : Ranges s) (n : NbrIdx) (set : List (Handle × Seq)) (list : List Seq) :
    Ranges (s.settle n set list) := by
  have each := foldl_keeps (P := Ranges) (Machine.settleOne n list) (fun _ hq h => h.settleOne n list hq) set h
  refine each.setNbr n ?_
  obtain ⟨ranged, windowed, a, b, c, d, -, rest⟩ := each.sound n
  exact ⟨ranged, windowed, a, b, c, d, satAdd_le _ _ _, rest⟩

/-! ### Requests -/

theorem clampNat_mem {lo hi : Nat} (h : lo ≤ hi) (x : Nat) : lo ≤ clampNat lo hi x ∧ clampNat lo hi x ≤ hi := by
  unfold clampNat
  split
  · exact ⟨le_refl _, h⟩
  · split
    · exact ⟨h, le_refl _⟩
    · omega

theorem clampNat_le {hi : Nat} (x : Nat) : clampNat 0 hi x ≤ hi := (clampNat_mem (Nat.zero_le hi) x).2

/-- What LINK SETTINGS takes lies within the ranges of R13. -/
theorem takenSettings_inRange {c : CarriedSettings} (legal : legalSettings c = true) : (takenSettings c).InRange := by
  simp only [legalSettings, legalThreshold, Bool.and_eq_true, decide_eq_true_eq] at legal
  obtain ⟨⟨⟨⟨⟨⟨⟨⟨lowF, -⟩, -, highR⟩, rising⟩, low1, -⟩, -⟩, -, high3⟩, step12⟩, step23⟩ := legal
  exact ⟨clampNat_le _, lowF, rising, highR, clampNat_mem (by decide) _, clampNat_mem (by decide) _, clampNat_mem (by decide) _, low1, step12,
    step23, high3, clampNat_le _, clampNat_le _, clampNat_mem (by decide) _, clampNat_mem (by decide) _⟩

theorem Ranges.linkSettings {s : State} (h : Ranges s) (wr : Byte) (c : CarriedSettings) : Ranges (s.linkSettings wr c) := by
  unfold State.linkSettings
  split
  · exact h.of_changes (changes_reply s _ _ _)
  · split
    · next legal => exact ⟨h.sound, takenSettings_inRange legal, h.hits, h.discards, h.checkFail, h.foreign, h.ignored⟩
    · exact h.of_changes (changes_reply s _ _ _)
  · exact h.of_changes (changes_reply s _ _ _)

theorem Ranges.enrol {s : State} (h : Ranges s) (index : Byte) (nodeId : Half) (hint cap : Byte) :
    Ranges (s.enrol index nodeId hint cap) := by
  have refused := fun c b => h.of_changes (changes_reply s Kind.neighbourEnrol c b)
  unfold State.enrol
  split
  · next n sec _ _ =>
    split
    · split
      · have stored := h.setNbr n (Nbr.sound_enrolled nodeId.toNat sec (capTaken cap).1)
        exact ((stored.of_changes (changes_setQueue _ n [])).of_changes (changes_post _ (.link n) _ none)).of_changes
          (changes_reply _ _ _ _)
      · exact refused _ _
    · exact refused _ _
  · exact refused _ _

theorem Ranges.retireRequest {s : State} (h : Ranges s) (index : Byte) : Ranges (s.retireRequest index) := by
  unfold State.retireRequest
  split
  · exact h.of_changes (changes_reply s _ _ _)
  · next n _ =>
    split
    · exact h.of_changes (changes_reply s _ _ _)
    · have emptied : Ranges ((s.freeEntries (hopsTo n)).discardQueue n) :=
        (foldl_keeps (fun s j => s.discard .retired j) (fun _ j h => h.discard .retired j) _ (h.freeEntries (hopsTo n))).of_changes
          (changes_setQueue _ n [])
      have quiet := emptied.of_changes (changes_setRadio _ ((s.freeEntries (hopsTo n)).radio.retire n))
      have cleared : Ranges (s.retiring n) := by
        unfold State.retiring
        dsimp only
        split
        · exact quiet.of_changes (changes_setSync _ none)
        · exact quiet
      have vacated : Ranges (s.retire n) := (cleared.setNbr n Nbr.sound_vacant).of_changes (changes_post _ (.link n) _ none)
      exact vacated.of_changes (changes_reply _ _ _ _)

theorem Ranges.confirm {s : State} (h : Ranges s) (index : Byte) : Ranges (s.confirm index) := by
  unfold State.confirm
  split
  · exact h.of_changes (changes_reply s _ _ _)
  · split
    · next held => exact (h.moves (moves_confirm held)).of_changes (changes_reply _ _ _ _)
    · exact h.of_changes (changes_reply s _ _ _)

theorem Ranges.query {s : State} (h : Ranges s) (index clear : Byte) : Ranges (s.query index clear) := by
  unfold State.query
  split
  · next n c _ _ =>
    cases c
    · exact h.of_changes (changes_reply s _ _ _)
    · have cleared : Ranges (s.modNbr n fun r => { r with counters := NbrCounters.zero }) := by
        refine h.setNbr n ?_
        obtain ⟨ranged, windowed, fade, good, miss, age, -⟩ := h.sound n
        exact ⟨ranged, windowed, fade, good, miss, age, by simp [NbrCounters.zero]⟩
      exact cleared.of_changes (changes_reply _ _ _ _)
  · exact h.of_changes (changes_reply s _ _ _)

theorem Ranges.storeRoute {s : State} (h : Ranges s) (k : Byte) (i : EntryIdx) (w : WantedEntry) : Ranges (s.storeRoute k i w) :=
  (h.setEntry i (e := some (s.routeFor w)) (tallied_some (Nat.zero_le _))).of_changes (changes_reply _ _ _ _)

theorem Ranges.entryWrite {s : State} (h : Ranges s) (index : Half) (e : CarriedEntry) : Ranges (s.entryWrite index e) := by
  unfold State.entryWrite
  split
  · exact h.of_changes (changes_reply s _ _ _)
  · split
    · exact h.of_changes (changes_reply s _ _ _)
    · split
      · exact h.storeRoute _ _ _
      · exact h.of_changes (changes_reply s _ _ _)

theorem Ranges.entryPlace {s : State} (h : Ranges s) (e : CarriedEntry) : Ranges (s.entryPlace e) := by
  unfold State.entryPlace
  split
  · exact h.of_changes (changes_reply s _ _ _)
  · split
    · split
      · exact h.of_changes (changes_reply s _ _ _)
      · exact h.storeRoute _ _ _
    · exact h.of_changes (changes_reply s _ _ _)

theorem State.unbar_hits (s : State) (r : Route) : (s.unbar r).hits = r.hits := by
  unfold State.unbar
  split <;> rfl

theorem Ranges.entryStateAt {s : State} (h : Ranges s) (i : EntryIdx) (target : TargetState) : Ranges (s.entryStateAt i target) := by
  have tally : ∀ {r : Route}, s.entry i = some r → r.hits ≤ 65535 := fun e => h.hits i _ e
  unfold State.entryStateAt
  split
  · exact (h.setEntry i tallied_none).of_changes (changes_reply _ _ _ _)
  · exact h.of_changes (changes_reply s _ _ _)
  · next r entry =>
    exact (h.setEntry i (tallied_some ((s.unbar_hits r).le.trans (tally entry)))).of_changes (changes_reply _ _ _ _)
  · next r entry =>
    have tallied := tally entry
    exact (h.setEntry i (e := some { r with state := .barred }) (tallied_some tallied)).of_changes (changes_reply _ _ _ _)

theorem Ranges.entryStateRequest {s : State} (h : Ranges s) (target : Half) (st : Byte) : Ranges (s.entryStateRequest target st) := by
  unfold State.entryStateRequest
  split
  · exact h.of_changes (changes_reply s _ _ _)
  · split
    · exact h.of_changes (changes_reply s _ _ _)
    · exact h.of_changes (changes_reply s _ _ _)
    · exact h.of_changes (changes_reply s _ _ _)
    · exact h.entryStateAt _ _

theorem Ranges.tableClear {s : State} (h : Ranges s) (scope : Byte) : Ranges (s.tableClear scope) := by
  unfold State.tableClear
  split
  · exact h.of_changes (changes_reply s _ _ _)
  · next sc _ =>
    have freed := h.freeEntries (inScope sc)
    cases sc <;>
    exact ⟨freed.sound, freed.settings, freed.hits, freed.discards, freed.checkFail, freed.foreign, freed.ignored⟩

theorem Ranges.frameSend {s : State} (h : Ranges s) (dest : Half) (cls hops : Byte) (payload : List Byte) :
    Ranges (s.frameSend dest cls hops payload) := by
  obtain ⟨t, reply, run, e⟩ := travels_frameSend s dest cls hops payload
  rw [e]
  have sent := h.travels run
  exact ⟨sent.sound, sent.settings, sent.hits, sent.discards, sent.checkFail, sent.foreign, sent.ignored⟩

theorem Ranges.countersRequest {s : State} (h : Ranges s) (clear : Byte) : Ranges (s.countersRequest clear) := by
  unfold State.countersRequest
  split
  · exact h.of_changes (changes_reply s _ _ _)
  · next c _ =>
    cases c
    · exact h.of_changes (changes_reply s _ _ _)
    · exact ⟨h.sound, h.settings, h.hits, by simp [Discards.InRange, State.clearCounters, State.reply, State.setLink],
        Nat.zero_le _, Nat.zero_le _, h.ignored⟩

theorem Ranges.scanSet {s : State} (h : Ranges s) (mode start stop b l : Byte) : Ranges (s.scanSet mode start stop b l) := by
  unfold State.scanSet
  split
  · exact h.of_changes (changes_reply s _ _ _)
  · split
    · exact ⟨h.sound, h.settings, h.hits, h.discards, h.checkFail, h.foreign, Nat.zero_le _⟩
    · exact h.of_changes (changes_reply s _ _ _)

theorem Ranges.scanStart {s : State} (h : Ranges s) : Ranges s.scanStart := h.trigger.of_changes (changes_reply _ _ _ _)

/-! ### Starts and events -/

theorem Discards.zero_inRange : Discards.InRange ⟨0, 0, 0, 0, 0, 0, 0, 0⟩ := by simp [Discards.InRange]

theorem Ranges.restartRequest {s : State} (h : Ranges s) (form : Byte) : Ranges (s.restartRequest form) := by
  unfold State.restartRequest
  split
  · exact h.of_changes (changes_beginStart s _)
  · refine ⟨fun n => ?_, h.settings, fun i => ?_, Discards.zero_inRange, Nat.zero_le _, Nat.zero_le _, Nat.zero_le _⟩
    · have warm : (s.mon.nbrs.each Nbr.warm).look n = (s.nbr n).warm := Tab.look_each _ _ _
      exact (congrArg Nbr.Sound warm).mpr (Nbr.sound_warm (s.nbr n))
    · have warm : (s.path.entries.each warmEntry).look i = warmEntry (s.entry i) := Tab.look_each _ _ _
      exact (congrArg Tallied warm).mpr (h.hits i).warmEntry
  · exact h.of_changes (changes_reply s _ _ _)

theorem LinkSettings.default_inRange : LinkSettings.default.InRange := by simp [LinkSettings.InRange, LinkSettings.default]

theorem ranges_cold (cause : StartCause) (level : Bool) (pending : List Instr) : Ranges (State.cold cause level pending) := by
  refine ⟨fun n => ?_, LinkSettings.default_inRange, fun i => ?_, Discards.zero_inRange, Nat.zero_le _, Nat.zero_le _,
    Nat.zero_le _⟩
  · have cold : (Tab.all 16 Nbr.vacant).look n = Nbr.vacant := Tab.look_all _ _
    exact (congrArg Nbr.Sound cold).mpr Nbr.sound_vacant
  · have cold : (Tab.all 256 (none : Entry)).look i = none := Tab.look_all _ _
    exact (congrArg Tallied cold).mpr tallied_none

theorem Ranges.completeStart {s : State} (h : Ranges s) : Ranges s.completeStart := by
  unfold State.completeStart
  split
  · exact h
  · exact ranges_cold _ _ _

theorem Ranges.txArrival {s : State} (h : Ranges s) (bytes : List Byte) (code : Code) : Ranges (s.txArrival bytes code) := by
  have failed : Ranges s.countCheckFail := h.traffic .failed
  have foreign : Ranges s.countForeign := h.traffic .foreign
  unfold State.txArrival
  split
  · split
    · split
      · exact h
      · split
        · exact failed
        · unfold State.soundInTail
          split
          · split
            · split
              · exact h.of_changes (changes_setRadio s _)
              · exact h
            · exact foreign
          · exact foreign
    · exact h
  · exact h

theorem Ranges.dropOversize {s : State} (h : Ranges s) (cost body : Nat) (q : List Handle) :
    Ranges (dropOversize cost body q s).1 := by
  induction q generalizing s with
  | nil => exact h
  | cons j rest ih =>
    unfold Machine.dropOversize
    split
    · exact ih (h.discard .airtime j)
    · exact h

theorem Ranges.openTx {s : State} (h : Ranges s) (n : NbrIdx) : Ranges (s.openTx n) := by
  unfold State.openTx
  dsimp only
  split
  · split
    · exact h.of_changes (changes_setRadio s _)
    · have chosen := fun cost => (h.dropOversize cost (slotBody s.sched.slotLen) (s.queue n)).of_changes
        (changes_setQueue _ n (Machine.dropOversize cost (slotBody s.sched.slotLen) (s.queue n) s).2)
      split
      · exact (chosen _).of_changes (changes_setRadio _ _)
      · exact (chosen _).of_changes (changes_setRadio _ _)
  · exact h

theorem changes_setSched_start (s : State) (i : SlotIdx) : Changes [.progress, .pendingD] s (s.setSched (s.sched.startSlot i)) :=
  fun p hp => by cases p <;> cases hp <;> rfl

theorem Ranges.slotStart {s : State} (h : Ranges s) : Ranges s.slotStart := by
  unfold State.slotStart
  split
  · next i _ =>
    have opened := h.of_changes (changes_setSched_start s i)
    cases (s.sched.slotAt i).kind with
    | idle => exact opened
    | tx n => exact opened.openTx n
    | rx n =>
      unfold State.openOwner State.openRx
      dsimp only
      split
      · exact opened.of_changes (changes_setRadio _ _)
      · exact opened
    | beacon sec =>
      unfold State.openOwner State.openBeacon
      dsimp only
      split
      · exact opened.of_changes (changes_setRadio _ _)
      · exact opened
    | scan =>
      unfold State.openOwner State.openScan
      dsimp only
      split
      · split
        · exact opened.of_changes (changes_setScan_state _ _)
        · exact (opened.of_changes (changes_setScan_state _ _)).of_changes (changes_setRadio _ _)
      · exact opened
  · exact h

theorem Ranges.slotEnd {s : State} (h : Ranges s) : Ranges s.slotEnd :=
  slotEnd_keeps (fun _ _ => Ranges.move) (fun _ _ h k => h.of_changes k) (fun _ _ _ _ h => h.of_changes (changes_post _ _ _ _))
    (fun _ p h _ => h.of_changes (changes_progressTo _ p)) h fun _ n set list _ _ _ => h.settle n set list

theorem Ranges.boundary {s : State} (h : Ranges s) : Ranges s.boundary :=
  boundary_keeps (fun _ p h _ => h.of_changes (changes_progressTo _ p))
    (fun _ h => h.of_changes (changes_count _)) (fun _ h => h.of_changes (changes_decideStaged _))
    (fun _ h => h.moves (moves_ageSeeking _)) (fun _ h => h.boundaryTrigger) h

theorem Ranges.exec {c : Instr} {s t : State} (h : Ranges s) (next : exec c s = .next t) : Ranges t := by
  have asked : ∀ {owner}, work c = .request owner → (∀ u, Ranges u → Ranges (owner u)) → Ranges t :=
    fun hc done => request_keeps next hc (fun h => h.of_changes (changes_setPhase s .spent)) done h
  cases c with
  | linkSettings wr c => exact asked rfl fun _ h => h.linkSettings wr c
  | neighbourEnrol index nodeId hint cap => exact asked rfl fun _ h => h.enrol index nodeId hint cap
  | neighbourRetire index => exact asked rfl fun _ h => h.retireRequest index
  | neighbourConfirm index => exact asked rfl fun _ h => h.confirm index
  | neighbourQuery index clear => exact asked rfl fun _ h => h.query index clear
  | entryWrite index e => exact asked rfl fun _ h => h.entryWrite index e
  | entryPlace e => exact asked rfl fun _ h => h.entryPlace e
  | entryState target st => exact asked rfl fun _ h => h.entryStateRequest target st
  | tableClear scope => exact asked rfl fun _ h => h.tableClear scope
  | frameSend dest cls hops payload => exact asked rfl fun _ h => h.frameSend dest cls hops payload
  | counters clear => exact asked rfl fun _ h => h.countersRequest clear
  | scanSet mode start stop b l => exact asked rfl fun _ h => h.scanSet mode start stop b l
  | scanStart => exact asked rfl fun _ h => h.scanStart
  | restartWarm => exact asked rfl fun _ h => h.restartRequest 1
  | restartCold => exact asked rfl fun _ h => h.restartRequest 0
  | restartRange form => exact asked rfl fun _ h => h.restartRequest form
  | coldStartCompletion => exact exec_event next rfl ▸ h.completeStart
  | rxFrameArrival bytes code => exact exec_event next rfl ▸ h.travels (travels_rxArrival s bytes code)
  | acksetArrival bytes code => exact exec_event next rfl ▸ h.txArrival bytes code
  | slotStart => exact exec_event next rfl ▸ h.slotStart
  | slotEnd => exact exec_event next rfl ▸ h.slotEnd
  | superframeBoundary => exact exec_event next rfl ▸ h.boundary
  | _ => exact h.of_changes (changes_exec next) rfl rfl rfl rfl rfl rfl rfl

end Sys2Proof.Machine

namespace Sys2Proof.Proofs

open Sys2Proof Sys2Proof.Machine

/-- Settles O59: samples and steps of the smoothing stay in range, settings are clamped, and every counter stops at its top. -/
theorem stepsKeepTheRanges : Obligations.StepsKeepTheRanges := by
  intro s t margins windows settings counters next
  exact ranges_iff.2 (step_keeps (P := Ranges) (fun _ _ h => ⟨h.sound, h.settings, h.hits, h.discards, h.checkFail, h.foreign,
    h.ignored⟩) (fun _ _ _ h next => h.exec next) (ranges_iff.1 ⟨margins, windows, settings, counters⟩) next)

end Sys2Proof.Proofs
end

section
/-! The host link under every command: one notice per source, and the offered item in its place until a READ takes it (R34, R125,
R154 to R162). -/

namespace Sys2Proof.Machine

open Sys2Proof

/-! ### Sets of notices -/

/-- The law of a pending set: one notice per source, each with its own content and a change count in 1..255 (R34, R158). -/
def Orderly (set : List Notice) : Prop :=
  (set.map (·.source)).Nodup ∧ ∀ n ∈ set, n.content.source = n.source ∧ 1 ≤ n.changes ∧ n.changes ≤ 255

theorem noticeLaw_iff {s : State} : NoticeLaw s ↔ Orderly s.link.notices := Iff.rfl

theorem orderly_single {n : Notice} (source : n.content.source = n.source) (changes : n.changes = 1) : Orderly [n] := by
  refine ⟨List.nodup_singleton _, fun m hm => ?_⟩
  obtain rfl := List.mem_singleton.1 hm
  exact ⟨source, by omega, by omega⟩

theorem bump_pos {top x : Nat} (h : 1 ≤ top) : 1 ≤ bump top x := by
  unfold bump
  omega

theorem Orderly.postInto {set : List Notice} (h : Orderly set) {content : NoticeContent} (rescue : Option Rescue) :
    Orderly (postInto content.source content rescue set) := by
  obtain ⟨nodup, each⟩ := h
  constructor
  · rw [postInto_sources]
    split
    · exact nodup
    · next fresh =>
      refine List.nodup_append.2 ⟨nodup, List.nodup_singleton _, fun a ha b hb e => fresh ?_⟩
      obtain ⟨n, hn, rfl⟩ := List.mem_map.1 ha
      rw [List.mem_singleton.1 hb] at e
      exact List.any_eq_true.2 ⟨n, hn, beq_iff_eq.2 e⟩
  · intro n hn
    unfold Machine.postInto at hn
    split at hn
    · obtain ⟨m, hm, rfl⟩ := List.mem_map.1 hn
      split
      · next same => exact ⟨(beq_iff_eq.1 same).symm, bump_pos (by decide), bump_le _ _⟩
      · exact each m hm
    · obtain old | new := List.mem_append.1 hn
      · exact each n old
      · obtain rfl := List.mem_singleton.1 new
        exact ⟨rfl, le_refl 1, by show 1 ≤ 255; decide⟩

/-- A consumed notice leaves the set, and comes back fresh where the carry holds postings (R160, R161). -/
theorem Orderly.consumeNotice {set : List Notice} (h : Orderly set) (src : Source) {c : Carry} (count : c.postings ≤ 255) :
    Orderly (consumeNotice src c set) := by
  obtain ⟨nodup, each⟩ := h
  have sublist : List.Sublist ((set.filter fun n => n.source != src).map (·.source)) (set.map (·.source)) :=
    List.filter_sublist.map _
  have rest : Orderly (set.filter fun n => n.source != src) :=
    ⟨nodup.sublist sublist, fun n hn => each n (List.mem_of_mem_filter hn)⟩
  unfold Machine.consumeNotice
  dsimp only
  split
  · exact rest
  · next m found =>
    split
    · exact rest
    · next some_ =>
      obtain ⟨content, -⟩ := each m (List.mem_of_find?_eq_some found)
      have source : m.source = src := by simpa using List.find?_some found
      refine ⟨?_, fun n hn => ?_⟩
      · rw [List.map_append]
        refine List.nodup_append.2 ⟨rest.1, List.nodup_singleton _, fun a ha b hb e => ?_⟩
        obtain ⟨n, hn, rfl⟩ := List.mem_map.1 ha
        have other : n.source ≠ src := by simpa using List.of_mem_filter hn
        rw [List.mem_singleton.1 hb] at e
        exact other (e.trans source)
      · obtain old | new := List.mem_append.1 hn
        · exact rest.2 n old
        · obtain rfl := List.mem_singleton.1 new
          exact ⟨content, by show 1 ≤ c.postings; omega, count⟩

/-! ### The port -/

/-- What the port law says of a READ in progress. -/
def Offering (s : State) (item : Item) (c : Carry) : Prop :=
  c.postings ≤ 255 ∧ (c.postings = 0 → c.rescue = none) ∧ (item = .reply → s.link.reply ≠ none)
    ∧ (∀ src, item = .notice src → s.isPending src = true) ∧ ∀ h, item = .frame h → s.store.delivery.head? = some h

/-- The port law, clause by clause. -/
structure Port (s : State) : Prop where
  writing : s.link.phase = .writing → s.link.staged = false ∧ s.link.reply = none
  staged : s.link.staged = true → s.link.reply = none ∧ s.sched.isRunning = true
  starting : s.part.starting ≠ none → s.link.phase = .none
  reading : ∀ item rec c, s.link.phase = .reading item rec c → Offering s item c

theorem portLaw_iff {s : State} : PortLaw s ↔ Port s :=
  ⟨fun ⟨writing, staged, starting, reading⟩ => ⟨writing, staged, starting, reading⟩,
    fun ⟨writing, staged, starting, reading⟩ => ⟨writing, staged, starting, reading⟩⟩

/-- The laws of the host link together. -/
structure HostLinked (s : State) : Prop where
  notices : Orderly s.link.notices
  port : Port s

/-- A change beside the link keeps the laws where the head of the delivery queue stays and a RUNNING scheduler runs on. -/
theorem HostLinked.of_link {s t : State} (h : HostLinked s) (link : t.link = s.link) (starting : t.part.starting = s.part.starting)
    (running : s.sched.isRunning = true → t.sched.isRunning = true)
    (head : ∀ j, s.store.delivery.head? = some j → t.store.delivery.head? = some j) : HostLinked t where
  notices := link ▸ h.notices
  port := by
    obtain ⟨writing, staged, begun, reading⟩ := h.port
    refine ⟨by rwa [link], fun e => ?_, by rwa [link, starting], fun item rec c e => ?_⟩
    · rw [link] at e ⊢
      exact (staged e).imp_right running
    · rw [link] at e
      obtain ⟨count, none_, reply, pending, frame⟩ := reading item rec c e
      refine ⟨count, none_, by rwa [link], fun src e => ?_, fun j e => head j (frame j e)⟩
      have same : t.isPending src = s.isPending src := by
        unfold State.isPending
        rw [link]
      exact same.trans (pending src e)

theorem Changes.link {s t : State} {ps : List Piece} (k : Changes ps s t) (phase : ps.contains .phase = false)
    (error : ps.contains .error = false) (staged : ps.contains .staged = false) (reply : ps.contains .reply = false)
    (notices : ps.contains .notices = false) : t.link = s.link := by
  have a : t.link.phase = s.link.phase := k .phase phase
  have b : t.link.error = s.link.error := k .error error
  have c : t.link.staged = s.link.staged := k .staged staged
  have d : t.link.reply = s.link.reply := k .reply reply
  have e : t.link.notices = s.link.notices := k .notices notices
  calc t.link = ⟨t.link.phase, t.link.error, t.link.staged, t.link.reply, t.link.notices⟩ := rfl
    _ = s.link := by rw [a, b, c, d, e]

theorem HostLinked.of_changes {s t : State} {ps : List Piece} (h : HostLinked s) (k : Changes ps s t)
    (phase : ps.contains .phase = false := by rfl) (error : ps.contains .error = false := by rfl)
    (staged : ps.contains .staged = false := by rfl) (reply : ps.contains .reply = false := by rfl)
    (notices : ps.contains .notices = false := by rfl) (starting : ps.contains .starting = false := by rfl)
    (delivery : ps.contains .delivery = false := by rfl) (progress : ps.contains .progress = false := by rfl) : HostLinked t :=
  h.of_link (k.link phase error staged reply notices) (k .starting starting)
    (fun run => (Scheduler.isRunning_eq (k .progress progress)).trans run)
    (fun _ e => (congrArg List.head? (k .delivery delivery)).trans e)

/-- A posting keeps the item that a READ offers: only the carry counts it (R161). -/
theorem carryPosting_reading {src : Source} {rescue : Option Rescue} {p : Phase} {item : Item} {rec : List Byte} {c : Carry}
    (e : carryPosting src rescue p = .reading item rec c) :
    ∃ c', p = .reading item rec c' ∧ (c = c' ∨ c = { postings := bump 255 c'.postings, rescue := addRescue c'.rescue rescue }) := by
  cases p with
  | reading item' rec' c' =>
    unfold carryPosting at e
    dsimp only at e
    split at e <;> cases e
    · exact ⟨_, rfl, .inr rfl⟩
    · exact ⟨_, rfl, .inl rfl⟩
  | none => cases e
  | selected status => cases e
  | writing => cases e
  | spent => cases e

theorem carryPosting_eq_writing {src : Source} {rescue : Option Rescue} {p : Phase} (e : carryPosting src rescue p = .writing) :
    p = .writing := by
  cases p with
  | reading item' rec' c' =>
    unfold carryPosting at e
    dsimp only at e
    split at e <;> cases e
  | none => cases e
  | selected status => cases e
  | writing => rfl
  | spent => cases e

/-- What was pending stays pending through a posting. -/
theorem State.isPending_post_of {s : State} {src : Source} (h : s.isPending src = true) (src' : Source) (content : NoticeContent)
    (rescue : Option Rescue) : (s.post src' content rescue).isPending src = true := by
  obtain ⟨n, hn, e⟩ := List.any_eq_true.1 h
  have listed : src ∈ (postInto src' content rescue s.link.notices).map (·.source) := by
    rw [postInto_sources]
    have old : src ∈ s.link.notices.map (·.source) := List.mem_map.2 ⟨n, hn, beq_iff_eq.1 e⟩
    split
    · exact old
    · exact List.mem_append.2 (.inl old)
  obtain ⟨m, hm, e'⟩ := List.mem_map.1 listed
  exact List.any_eq_true.2 ⟨m, hm, beq_iff_eq.2 e'⟩

theorem HostLinked.post {s : State} (h : HostLinked s) {src : Source} {content : NoticeContent} (rescue : Option Rescue)
    (source : content.source = src := by rfl) : HostLinked (s.post src content rescue) := by
  subst source
  obtain ⟨writing, staged, begun, reading⟩ := h.port
  refine ⟨h.notices.postInto rescue, fun e => writing (carryPosting_eq_writing e), staged, fun e => ?_, fun item rec c e => ?_⟩
  · have none_ := begun e
    show carryPosting _ _ s.link.phase = .none
    rw [none_]
    rfl
  · obtain ⟨c', old, carry⟩ := carryPosting_reading e
    obtain ⟨count, quiet, reply, pending, frame⟩ := reading item rec c' old
    have kept : c.postings ≤ 255 ∧ (c.postings = 0 → c.rescue = none) := by
      obtain e | e := carry <;> rw [e]
      · exact ⟨count, quiet⟩
      · refine ⟨bump_le _ _, fun zero => ?_⟩
        have pos : 1 ≤ bump 255 c'.postings := bump_pos (by decide)
        have zero : bump 255 c'.postings = 0 := zero
        omega
    exact ⟨kept.1, kept.2, reply, fun src e => State.isPending_post_of (pending src e) _ _ _, frame⟩

theorem HostLinked.postLink {s : State} (h : HostLinked s) (n : NbrIdx) (cause : LinkCause) (rescue : Option Rescue) :
    HostLinked (s.postLink n cause rescue) := by
  unfold State.postLink
  exact h.post rescue

theorem HostLinked.postSched {s : State} (h : HostLinked s) (cause : SchedCause) (d : Option Int) :
    HostLinked (s.postSched cause d) := by
  unfold State.postSched
  exact h.post none

theorem HostLinked.postScan {s : State} (h : HostLinked s) (d : Dwell) (lines : List ReportBeacon) (next : ScanState) :
    HostLinked (s.postScan d lines next) := by
  unfold State.postScan
  exact h.post none

theorem HostLinked.postSupply {s : State} (h : HostLinked s) (edge : Edge) (cut : Option Cut) :
    HostLinked (s.postSupply edge cut) := by
  unfold State.postSupply
  exact h.post none

/-! ### Moves and traffic -/

theorem rescueOne_delivery (acc : State × Rescue) (j : Handle) : acc.1.store.delivery <+: (rescueOne acc j).1.store.delivery := by
  unfold rescueOne
  split
  · exact List.prefix_refl _
  · next rec _ =>
    have looked := congrArg FrameStore.delivery (State.frameLookup_store acc.1 { dest := rec.dest, cls := rec.cls, ing := rec.ing })
    have discarded : ∀ (u : State) why, u.store.delivery = acc.1.store.delivery →
        acc.1.store.delivery <+: (u.discard why j).store.delivery := fun u why e => by
      rw [changes_discard u why j .delivery rfl, e]
    dsimp only
    split
    · exact discarded _ _ looked
    · split
      · exact discarded _ _ looked
      · exact ⟨[j], by rw [← looked]; rfl⟩
      · split
        · exact discarded _ _ looked
        · split
          · rw [← looked]
            exact List.prefix_refl _
          · exact discarded _ _ looked

theorem State.rescue_delivery (s : State) (n : NbrIdx) : s.store.delivery <+: (s.rescue n).1.store.delivery :=
  foldl_keeps (P := fun acc => s.store.delivery <+: acc.1.store.delivery) rescueOne
    (fun acc j h => h.trans (rescueOne_delivery acc j)) (s.queue n) (a := (s.setQueue n [], ⟨0, 0⟩)) (List.prefix_refl _)

theorem head?_of_prefix {α : Type} {l m : List α} (h : l <+: m) {x : α} (e : l.head? = some x) : m.head? = some x := by
  obtain ⟨rest, rfl⟩ := h
  rw [List.head?_append, e]
  rfl

theorem HostLinked.rescue {s : State} (h : HostLinked s) (n : NbrIdx) : HostLinked (s.rescue n).1 :=
  h.of_link ((changes_rescue s n).link rfl rfl rfl rfl rfl) (changes_rescue s n .starting rfl)
    (fun run => (Scheduler.isRunning_eq (changes_rescue s n .progress rfl)).trans run)
    (fun _ e => head?_of_prefix (s.rescue_delivery n) e)

theorem HostLinked.changeState {s : State} (h : HostLinked s) (n : NbrIdx) (new : LinkState) (cause : LinkCause) :
    HostLinked (s.changeState n new cause) := by
  have parked := (h.of_changes (changes_setNbr s n { (s.nbr n).clearRuns with state := new })).of_changes
    (changes_parkFor _ n (s.nbr n).state new)
  unfold State.changeState State.afterChange
  dsimp only
  split
  · exact ((parked.rescue n).of_changes (changes_lossTrigger _)).postLink _ _ _
  · exact parked.postLink _ _ _

theorem HostLinked.measure {s : State} (h : HostLinked s) (b : HeardBeacon) : HostLinked (s.measure b) := by
  unfold State.measure
  split
  · exact h
  · split
    · have measured : ∀ c : Scheduler, c.state = s.sched.state → HostLinked (s.setSched c) := fun c e =>
        h.of_link rfl rfl (fun run => (Scheduler.isRunning_eq e).trans run) fun _ e => e
      unfold State.judgeDrift
      dsimp only
      split
      · refine HostLinked.postSched ?_ _ _
        exact measured _ rfl
      · split
        · refine HostLinked.postSched ?_ _ _
          exact measured _ rfl
        · exact measured _ rfl
    · exact h

theorem HostLinked.move {s t : State} (h : HostLinked s) (k : Move s t) : HostLinked t := by
  cases k with
  | revise n _ => exact h.of_changes (changes_setNbr s n _)
  | change n new cause _ _ _ => exact h.changeState n new cause
  | tell n cause => exact h.postLink n cause none
  | grow => exact h.of_link rfl rfl id fun _ => id
  | measure b => exact h.measure b

theorem HostLinked.traffic {s t : State} (h : HostLinked s) (k : Traffic s t) : HostLinked t := by
  have c := changes_traffic k
  refine h.of_link (c.link rfl rfl rfl rfl rfl) (c .starting rfl) (fun run => (Scheduler.isRunning_eq (c .progress rfl)).trans run)
    fun j e => ?_
  cases k with
  | deliver _ _ _ _ _ _ => exact head?_of_prefix (List.prefix_append _ _) e
  | relay _ _ _ _ _ _ _ _ _ => exact e
  | hear _ _ => exact e
  | failed => exact e
  | foreign => exact e
  | revise _ _ => exact e
  | look q => exact (congrArg List.head? (changes_frameLookup s q .delivery rfl)).trans e
  | drop _ => exact e

theorem HostLinked.travels {s t : State} (h : HostLinked s) (run : Travels s t) : HostLinked t :=
  run_keeps (P := HostLinked) (fun _ _ => HostLinked.traffic) h run

/-! ### Requests: the transaction is spent -/

/-- Where nothing is taken in and nothing offered, the port law is about a staged switch and a start alone. -/
theorem Port.of_idle {s : State} {p : Phase} (phase : s.link.phase = p) (idle : p ≠ .writing) (unread : ∀ i r c, p ≠ .reading i r c)
    (staged : s.link.staged = true → s.link.reply = none ∧ s.sched.isRunning = true)
    (starting : s.part.starting ≠ none → p = .none) : Port s where
  writing e := absurd (phase.symm.trans e) idle
  staged := staged
  starting begun := phase.trans (starting begun)
  reading i r c e := absurd (phase.symm.trans e) (unread i r c)

theorem Port.of_stopped {s : State} (phase : s.link.phase = .none) (staged : s.link.staged = false) : Port s :=
  .of_idle phase (by simp) (by simp) (fun e => by simp [staged] at e) fun _ => rfl

/-- The rest of a transaction whose request was taken in: nothing is offered, no switch is staged, no start is in progress. -/
structure Spent (s : State) : Prop where
  notices : Orderly s.link.notices
  phase : s.link.phase = .spent
  staged : s.link.staged = false
  starting : s.part.starting = none

theorem Spent.linked {s : State} (h : Spent s) : HostLinked s :=
  ⟨h.notices, .of_idle h.phase (by simp) (by simp) (fun e => by simp [h.staged] at e) fun begun => absurd h.starting begun⟩

theorem Spent.of_changes {s t : State} {ps : List Piece} (h : Spent s) (k : Changes ps s t)
    (phase : ps.contains .phase = false := by rfl) (staged : ps.contains .staged = false := by rfl)
    (notices : ps.contains .notices = false := by rfl) (starting : ps.contains .starting = false := by rfl) : Spent t where
  notices := (k .notices notices).symm ▸ h.notices
  phase := Eq.trans (k .phase phase) h.phase
  staged := Eq.trans (k .staged staged) h.staged
  starting := Eq.trans (k .starting starting) h.starting

theorem Spent.post {s : State} (h : Spent s) {src : Source} {content : NoticeContent} (rescue : Option Rescue)
    (source : content.source = src := by rfl) : Spent (s.post src content rescue) where
  notices := by
    subst source
    exact h.notices.postInto rescue
  phase := by
    show carryPosting _ _ s.link.phase = .spent
    rw [h.phase]
    rfl
  staged := h.staged
  starting := h.starting

theorem Spent.postLink {s : State} (h : Spent s) (n : NbrIdx) (cause : LinkCause) (rescue : Option Rescue) :
    Spent (s.postLink n cause rescue) := by
  unfold State.postLink
  exact h.post rescue

theorem Spent.reply {s : State} (h : Spent s) (k : Byte) (c : ResultCode) (b : ReplyBody) : Spent (s.reply k c b) :=
  h.of_changes (changes_reply s k c b)

/-- In an accepted request the transaction is spent, and no reply waits. -/
theorem HostLinked.spent {s : State} (h : HostLinked s) (accepting : s.accepting) :
    Spent (s.setPhase .spent) ∧ (s.setPhase .spent).link.reply = none := by
  obtain ⟨staged, reply⟩ := h.port.writing accepting
  refine ⟨⟨h.notices, rfl, staged, ?_⟩, reply⟩
  by_contra begun
  have none_ := h.port.starting begun
  rw [accepting] at none_
  cases none_

theorem Spent.malformed {s : State} (h : Spent s) (kind : Option Byte) (len : Option Half) (taken : Half) :
    Spent (s.malformed kind len taken) := h.of_changes (changes_malformed s kind len taken)

theorem Spent.enrol {s : State} (h : Spent s) (index : Byte) (nodeId : Half) (hint cap : Byte) :
    Spent (s.enrol index nodeId hint cap) := by
  unfold State.enrol
  split
  · split
    · split
      · exact (((h.of_changes (changes_setNbr s _ _)).of_changes (changes_setQueue _ _ [])).postLink _ _ _).reply _ _ _
      · exact h.reply _ _ _
    · exact h.reply _ _ _
  · exact h.reply _ _ _

theorem Spent.setSync {s : State} (h : Spent s) (k : Option NbrIdx) : Spent (s.setSync k) := by
  have cleared : Spent (s.setSched { s.sched.withDrift false with sync := k, pendingD := none, lastD := none }) :=
    ⟨h.notices, h.phase, h.staged, h.starting⟩
  unfold State.setSync
  dsimp only
  split
  · exact cleared.post none
  · exact cleared

theorem Spent.retireRequest {s : State} (h : Spent s) (index : Byte) : Spent (s.retireRequest index) := by
  unfold State.retireRequest
  split
  · exact h.reply _ _ _
  · next n _ =>
    split
    · exact h.reply _ _ _
    · have freed := h.of_changes (changes_freeEntries s (hopsTo n))
      have quiet := (freed.of_changes (changes_discardQueue _ n)).of_changes
        (changes_setRadio _ ((s.freeEntries (hopsTo n)).radio.retire n))
      have cleared : Spent (s.retiring n) := by
        unfold State.retiring
        dsimp only
        split
        · exact quiet.setSync none
        · exact quiet
      have vacated : Spent (s.retire n) := (cleared.of_changes (changes_setNbr _ n Nbr.vacant)).post none
      exact vacated.reply _ _ _

theorem Spent.changeState {s : State} (h : Spent s) (n : NbrIdx) (new : LinkState) (cause : LinkCause) :
    Spent (s.changeState n new cause) := by
  have parked := (h.of_changes (changes_setNbr s n { (s.nbr n).clearRuns with state := new })).of_changes
    (changes_parkFor _ n (s.nbr n).state new)
  unfold State.changeState State.afterChange
  dsimp only
  split
  · exact ((parked.of_changes (changes_rescue _ n)).of_changes (changes_lossTrigger _)).postLink _ _ _
  · exact parked.postLink _ _ _

theorem Spent.confirm {s : State} (h : Spent s) (index : Byte) : Spent (s.confirm index) := by
  unfold State.confirm
  split
  · exact h.reply _ _ _
  · next n _ =>
    split
    · exact ((h.of_changes (changes_setNbr s n _)).changeState n .weak .confirm).reply _ _ _
    · exact h.reply _ _ _

theorem Spent.timingSet {s : State} (h : Spent s) (index : Byte) : Spent (s.timingSet index) := by
  unfold State.timingSet
  split
  · exact h.reply _ _ _
  · exact (h.setSync none).reply _ _ _
  · split
    · exact h.reply _ _ _
    · exact (h.setSync _).reply _ _ _

/-- A staged switch waits without a reply, RUNNING (R125); a switch decided at once is a reply. -/
theorem Spent.mapSwitchRequest {s : State} (h : Spent s) (noReply : s.link.reply = none) : HostLinked s.mapSwitchRequest := by
  unfold State.mapSwitchRequest
  split
  · next running =>
    exact ⟨h.notices, .of_idle h.phase (by simp) (by simp) (fun _ => ⟨noReply, running⟩) fun begun => absurd h.starting begun⟩
  · dsimp only
    split
    · exact ((h.of_changes (changes_setSched_switch s)).reply _ _ _).linked
    · exact (h.reply _ _ _).linked

theorem HostLinked.beginStart {s : State} (h : HostLinked s) (cause : StartCause) : HostLinked (s.beginStart cause) :=
  ⟨h.notices, .of_stopped rfl rfl⟩

theorem Spent.restartRequest {s : State} (h : Spent s) (form : Byte) : HostLinked (s.restartRequest form) := by
  unfold State.restartRequest
  split
  · exact h.linked.beginStart _
  · have warm : Spent s.warmRestart := ⟨orderly_single rfl rfl, h.phase, rfl, h.starting⟩
    exact warm.linked
  · exact (h.reply _ _ _).linked

/-! ### Events -/

/-- The laws leave the error flag out. -/
theorem HostLinked.setError {s : State} (h : HostLinked s) (e : Bool) : HostLinked (s.setError e) :=
  ⟨h.notices, h.port.writing, h.port.staged, h.port.starting, h.port.reading⟩

theorem HostLinked.statusSent {s : State} (h : HostLinked s) (status : Byte) : HostLinked (s.statusSent status) := by
  unfold State.statusSent
  split
  · exact h.setError _
  · exact h

/-- A phase that neither takes a record in nor offers an item, entered while no start is in progress. -/
theorem HostLinked.setPhase {s : State} (h : HostLinked s) {p : Phase} (idle : p ≠ .writing) (unread : ∀ i r c, p ≠ .reading i r c)
    (starting : s.part.starting = none ∨ p = .none) : HostLinked (s.setPhase p) :=
  ⟨h.notices, .of_idle rfl idle unread h.port.staged fun begun => starting.resolve_left begun⟩

theorem HostLinked.endReadEarly {s : State} (h : HostLinked s) : HostLinked s.endReadEarly := by
  unfold State.endReadEarly
  split
  · exact (h.setError true).setPhase (by simp) (by simp) (.inr rfl)
  · exact h

theorem HostLinked.selectFall {s : State} (h : HostLinked s) : HostLinked s.selectFall := by
  unfold State.selectFall
  split
  · exact h
  · next idle =>
    have idle : s.part.starting = none := by simpa using idle
    exact h.endReadEarly.setPhase (by simp) (by simp) (.inl (Eq.trans (changes_endReadEarly s .starting rfl) idle))

/-- Within a transaction no start is in progress. -/
theorem HostLinked.not_starting {s : State} (h : HostLinked s) {status : Byte} (selected : s.link.phase = .selected status) :
    s.part.starting = none := by
  by_contra begun
  have none_ := h.port.starting begun
  rw [selected] at none_
  cases none_

theorem HostLinked.takeWrite {s : State} (h : HostLinked s) : HostLinked s.takeWrite := by
  unfold State.takeWrite
  split
  · next status selected =>
    have sent := h.statusSent status
    have idle : (s.statusSent status).part.starting = none :=
      Eq.trans (changes_statusSent s status .starting rfl) (h.not_starting selected)
    dsimp only
    split
    · next ready =>
      simp only [State.ready, Bool.and_eq_true, Bool.not_eq_true', Option.isNone_iff_eq_none] at ready
      exact ⟨sent.notices, ⟨fun _ => ready, sent.port.staged, fun begun => absurd idle begun, fun _ _ _ e => by cases e⟩⟩
    · exact (sent.setError true).setPhase (by simp) (by simp) (.inl idle)
  · exact h

theorem HostLinked.takeInvalid {s : State} (h : HostLinked s) : HostLinked s.takeInvalid := by
  unfold State.takeInvalid
  split
  · next status selected =>
    exact ((h.statusSent status).setError true).setPhase (by simp) (by simp)
      (.inl (Eq.trans (changes_statusSent s status .starting rfl) (h.not_starting selected)))
  · exact h

/-- A fresh READ offers an item that is there (R159). -/
theorem State.offering_offer (s : State) : Offering s s.offer { postings := 0, rescue := none } := by
  refine ⟨Nat.zero_le _, fun _ => rfl, fun e => ?_, fun src e => ?_, fun j e => ?_⟩ <;>
    unfold State.offer at e <;> split at e
  · next reply => simpa [Option.isSome_iff_ne_none] using reply
  · split at e
    · cases e
    · split at e <;> cases e
  · cases e
  · split at e
    · next n rest set =>
      obtain rfl := Item.notice.inj e
      exact List.any_eq_true.2 ⟨n, set ▸ List.mem_cons_self, beq_iff_eq.2 rfl⟩
    · split at e <;> cases e
  · cases e
  · split at e
    · cases e
    · split at e
      · next h rest queue =>
        obtain rfl := Item.frame.inj e
        rw [queue]
        rfl
      · cases e

theorem HostLinked.takeRead {s : State} (h : HostLinked s) : HostLinked s.takeRead := by
  unfold State.takeRead
  split
  · next status selected =>
    have sent := h.statusSent status
    have idle : (s.statusSent status).part.starting = none :=
      Eq.trans (changes_statusSent s status .starting rfl) (h.not_starting selected)
    refine ⟨sent.notices, ⟨(fun e => nomatch e), sent.port.staged, fun begun => absurd idle begun, fun item rec c e => ?_⟩⟩
    obtain ⟨rfl, -, rfl⟩ := Phase.reading.inj e
    exact (s.statusSent status).offering_offer
  · exact h

theorem State.release_sched (s : State) (j : Handle) : (s.release j).sched = s.sched := by
  obtain ⟨frames, pool, e⟩ := s.release_spec j
  rw [e]

theorem HostLinked.consume {s : State} (h : HostLinked s) {item : Item} {c : Carry} (count : c.postings ≤ 255)
    (idle : s.part.starting = none) : HostLinked ((s.consume item c).setPhase .spent) := by
  have spent : ∀ {t : State}, Orderly t.link.notices → t.link.staged = s.link.staged →
      (t.link.reply = s.link.reply ∨ t.link.reply = none) → t.part.starting = s.part.starting → t.sched = s.sched →
      HostLinked (t.setPhase .spent) := fun {t} notices staged reply starting sched => by
    refine ⟨notices, .of_idle rfl (by simp) (by simp) (fun e => ?_) fun begun => absurd (starting.trans idle) begun⟩
    obtain ⟨none_, running⟩ := h.port.staged (staged ▸ e)
    refine ⟨?_, sched ▸ running⟩
    obtain e | e := reply
    · exact e.trans none_
    · exact e
  cases item with
  | reply => exact spent h.notices rfl (.inr rfl) rfl rfl
  | notice src =>
    have taken := h.notices.consumeNotice src count
    unfold State.consume
    dsimp only
    split
    · have k := changes_releaseScanner (s.setLink { s.link with notices := consumeNotice src c s.link.notices })
      have link := k.link rfl rfl rfl rfl rfl
      refine spent (link ▸ taken) (by rw [link]; rfl) (.inl (by rw [link]; rfl)) (k .starting rfl) ?_
      unfold State.releaseScanner
      split <;> rfl
    · exact spent taken rfl (.inl rfl) rfl rfl
  | frame j =>
    have link := (changes_takeDelivered s j).link rfl rfl rfl rfl rfl
    refine spent (t := s.takeDelivered j) (link ▸ h.notices) (by rw [link]) (.inl (by rw [link]))
      (changes_takeDelivered s j .starting rfl) ?_
    exact State.release_sched _ j
  | empty => exact spent h.notices rfl (.inl rfl) rfl rfl

theorem HostLinked.completeRead {s : State} (h : HostLinked s) : HostLinked s.completeRead := by
  unfold State.completeRead
  split
  · next item rec c reading =>
    obtain ⟨count, -⟩ := h.port.reading item rec c reading
    refine h.consume count ?_
    by_contra begun
    have none_ := h.port.starting begun
    rw [reading] at none_
    cases none_
  · exact h

theorem HostLinked.resetAssert {s : State} (h : HostLinked s) : HostLinked s.resetAssert := by
  have low : HostLinked (s.setPart { s.part with resetLow := true }) := h.of_link rfl rfl id fun _ => id
  unfold State.resetAssert
  dsimp only
  split
  · exact low
  · exact low.beginStart _

theorem hostLinked_cold (cause : StartCause) (level : Bool) (pending : List Instr) : HostLinked (State.cold cause level pending) :=
  ⟨orderly_single rfl rfl, .of_stopped rfl rfl⟩

theorem HostLinked.completeStart {s : State} (h : HostLinked s) : HostLinked s.completeStart := by
  unfold State.completeStart
  split
  · exact h
  · exact hostLinked_cold _ _ _

theorem HostLinked.supplyAssert {s : State} (h : HostLinked s) : HostLinked s.supplyAssert := by
  unfold State.supplyAssert
  split
  · exact h.of_link rfl rfl id fun _ => id
  · refine HostLinked.postSupply ?_ _ _
    exact h.of_link rfl rfl (fun run => (Scheduler.isRunning_eq rfl).trans run) fun _ => id

theorem HostLinked.supplyRelease {s : State} (h : HostLinked s) : HostLinked s.supplyRelease := by
  unfold State.supplyRelease
  split
  · exact h.of_link rfl rfl id fun _ => id
  · refine HostLinked.postSupply ?_ _ _
    exact h.of_link rfl rfl (fun run => (Scheduler.isRunning_eq rfl).trans run) fun _ => id

theorem HostLinked.progressTo {s : State} (h : HostLinked s) (p : Progress) : HostLinked (s.progressTo p) :=
  h.of_link rfl rfl (fun _ => rfl) fun _ => id

theorem HostLinked.slotStart {s : State} (h : HostLinked s) : HostLinked s.slotStart := by
  have k := changes_slotStart s
  refine h.of_link (k.link rfl rfl rfl rfl rfl) (k .starting rfl) (fun run => ?_)
    fun _ e => (congrArg List.head? (k .delivery rfl)).trans e
  unfold State.slotStart
  split
  · next i _ =>
    have opened : (s.setSched (s.sched.startSlot i)).sched.isRunning = true := rfl
    exact (Scheduler.isRunning_eq (changes_openOwner _ i _ .progress rfl)).trans opened
  · exact run

theorem HostLinked.bodyStart {s : State} (h : HostLinked s) : HostLinked s.bodyStart := by
  unfold State.bodyStart
  split
  · exact h
  · next o _ =>
    split
    · have entered : HostLinked (s.enterPart o .body) := h.progressTo _
      dsimp only
      split
      · exact entered.of_changes (changes_startBurst _ _)
      · exact entered.of_changes (changes_startBeacon _ _ _)
      · exact entered
    · exact h

theorem HostLinked.tailStart {s : State} (h : HostLinked s) : HostLinked s.tailStart := by
  unfold State.tailStart
  split
  · exact h
  · next o _ =>
    split
    · exact h
    · have entered : HostLinked (s.enterPart o .tail) := h.progressTo _
      dsimp only
      split
      · exact entered.of_changes (changes_rxTail _ _)
      · exact entered

theorem HostLinked.slotEnd {s : State} (h : HostLinked s) : HostLinked s.slotEnd :=
  slotEnd_keeps (fun _ _ => HostLinked.move) (fun _ _ h k => h.of_changes k) (fun _ d lines next h => h.postScan d lines next)
    (fun _ p h _ => h.progressTo p) h fun _ n set list _ _ _ => h.of_changes (changes_settle s n set list)

theorem HostLinked.decideStaged {s : State} (h : HostLinked s) : HostLinked s.decideStaged := by
  unfold State.decideStaged
  split
  · next staged =>
    obtain ⟨-, running⟩ := h.port.staged staged
    have decided : ∀ (active : Fin 2) (r : Reply), HostLinked ((s.setSched { s.sched with active := active }).setLink
        { s.link with staged := false, reply := some r }) := fun active r => by
      refine ⟨h.notices, ⟨fun e => ?_, (fun e => nomatch e), h.port.starting, fun item rec c e => ?_⟩⟩
      · obtain ⟨no, -⟩ := h.port.writing e
        rw [staged] at no
        cases no
      · obtain ⟨count, quiet, -, pending, frame⟩ := h.port.reading item rec c e
        exact ⟨count, quiet, fun _ => by simp, pending, frame⟩
    unfold Scheduler.switch
    dsimp only
    split
    · exact decided _ _
    · exact decided _ _
  · exact h

theorem HostLinked.boundary {s : State} (h : HostLinked s) : HostLinked s.boundary :=
  boundary_keeps (fun _ p h _ => h.progressTo p) (fun _ h => h.of_changes (changes_count _))
    (fun _ h => h.decideStaged) (fun _ h => run_keeps (P := HostLinked) (fun _ _ => HostLinked.move) h (moves_ageSeeking _))
    (fun _ h => h.of_changes (changes_boundaryTrigger _)) h

theorem HostLinked.exec {c : Instr} {s t : State} (h : HostLinked s) (next : exec c s = .next t) : HostLinked t := by
  have served : ∀ {owner}, work c = .request owner → (∀ u, Spent u → u.link.reply = none → HostLinked (owner u)) → HostLinked t := by
    intro owner hc done
    obtain ⟨-, rfl⟩ | ⟨accepting, rfl⟩ := exec_request next hc
    · exact h
    · obtain ⟨spent, reply⟩ := h.spent accepting
      exact done _ spent reply
  cases c with
  | selectFall => exact exec_event next rfl ▸ h.selectFall
  | write => exact exec_event next rfl ▸ h.takeWrite
  | read => exact exec_event next rfl ▸ h.takeRead
  | invalidTransactionKind => exact exec_event next rfl ▸ h.takeInvalid
  | readCompletion => exact exec_event next rfl ▸ h.completeRead
  | readEndedEarly => exact exec_event next rfl ▸ h.endReadEarly
  | malformedRecord kind len taken => exact served rfl fun u h _ => (h.of_changes (changes_malformed u kind len taken)).linked
  | linkSettings wr c => exact served rfl fun u h _ => (h.of_changes (changes_linkSettings u wr c)).linked
  | neighbourEnrol index nodeId hint cap => exact served rfl fun _ h _ => (h.enrol index nodeId hint cap).linked
  | neighbourRetire index => exact served rfl fun _ h _ => (h.retireRequest index).linked
  | neighbourConfirm index => exact served rfl fun _ h _ => (h.confirm index).linked
  | neighbourQuery index clear => exact served rfl fun u h _ => (h.of_changes (changes_query u index clear)).linked
  | lookup key => exact served rfl fun u h _ => (h.of_changes (changes_lookupRequest u key)).linked
  | find st any key => exact served rfl fun u h _ => (h.of_changes (changes_findRequest u st any key)).linked
  | findFree any key => exact served rfl fun u h _ => (h.of_changes (changes_findFreeRequest u any)).linked
  | entryWrite index e => exact served rfl fun u h _ => (h.of_changes (changes_entryWrite u index e)).linked
  | entryPlace e => exact served rfl fun u h _ => (h.of_changes (changes_entryPlace u e)).linked
  | entryRead index => exact served rfl fun u h _ => (h.of_changes (changes_entryReadRequest u index)).linked
  | entryState target st => exact served rfl fun u h _ => (h.of_changes (changes_entryStateRequest u target st)).linked
  | tableClear scope => exact served rfl fun u h _ => (h.of_changes (changes_tableClear u scope)).linked
  | maskSet profile ignore c g => exact served rfl fun u h _ => (h.of_changes (changes_maskSet u profile ignore c g)).linked
  | maskSelect profile => exact served rfl fun u h _ => (h.of_changes (changes_maskSelect u profile)).linked
  | frameSend dest cls hops payload =>
    exact served rfl fun u h _ => (h.of_changes (changes_frameSend u dest cls hops payload)).linked
  | counters clear => exact served rfl fun u h _ => (h.of_changes (changes_countersRequest u clear)).linked
  | slotLength v => exact served rfl fun u h _ => (h.of_changes (changes_setSlotLength u v)).linked
  | mapWrite map first has check codes =>
    exact served rfl fun u h _ => (h.of_changes (changes_mapWrite u map first has check codes)).linked
  | mapRead map => exact served rfl fun u h _ => (h.of_changes (changes_mapReadRequest u map)).linked
  | mapSwitch => exact served rfl fun _ h reply => h.mapSwitchRequest reply
  | scheduleStart => exact served rfl fun u h _ => (h.of_changes (changes_scheduleStart u)).linked
  | scheduleStop => exact served rfl fun u h _ => (h.of_changes (changes_scheduleStop u)).linked
  | timingSet index => exact served rfl fun _ h _ => (h.timingSet index).linked
  | scanSet mode start stop b l => exact served rfl fun u h _ => (h.of_changes (changes_scanSet u mode start stop b l)).linked
  | scanStart => exact served rfl fun u h _ => (h.of_changes (changes_scanStart u)).linked
  | scanHalt => exact served rfl fun u h _ => (h.of_changes (changes_scanHalt u)).linked
  | identify nodeId epoch => exact served rfl fun u h _ => (h.of_changes (changes_identifyRequest u nodeId epoch)).linked
  | status => exact served rfl fun u h _ => (h.of_changes (changes_statusRequest u)).linked
  | restartWarm => exact served rfl fun _ h _ => h.restartRequest 1
  | restartCold => exact served rfl fun _ h _ => h.restartRequest 0
  | restartRange form => exact served rfl fun _ h _ => h.restartRequest form
  | powerOn => exact exec_event next rfl ▸ h.beginStart .power
  | reset => exact exec_event next rfl ▸ h.resetAssert
  | coldStartCompletion => exact exec_event next rfl ▸ h.completeStart
  | supplyLowAssertion => exact exec_event next rfl ▸ h.supplyAssert
  | supplyLowDeassertion => exact exec_event next rfl ▸ h.supplyRelease
  | rxFrameArrival bytes code => exact exec_event next rfl ▸ h.travels (travels_rxArrival s bytes code)
  | slotStart => exact exec_event next rfl ▸ h.slotStart
  | bodyStart => exact exec_event next rfl ▸ h.bodyStart
  | tailStart => exact exec_event next rfl ▸ h.tailStart
  | slotEnd => exact exec_event next rfl ▸ h.slotEnd
  | superframeBoundary => exact exec_event next rfl ▸ h.boundary
  | _ => exact h.of_changes (changes_exec next) rfl rfl rfl rfl rfl rfl rfl rfl

end Sys2Proof.Machine

namespace Sys2Proof.Proofs

open Sys2Proof Sys2Proof.Machine

/-- Settles O58: postings and consumption keep one notice per source, a READ offers what is there, and only the work of an accepted
request fills the reply place. -/
theorem stepsKeepTheHostLink : Obligations.StepsKeepTheHostLink := by
  intro s t notices port next
  have kept := step_keeps (P := HostLinked) (fun _ _ h => h.of_link rfl rfl id fun _ => id) (fun _ _ _ h next => h.exec next)
    ⟨noticeLaw_iff.1 notices, portLaw_iff.1 port⟩ next
  exact ⟨noticeLaw_iff.2 kept.notices, portLaw_iff.2 kept.port⟩

end Sys2Proof.Proofs
end

section
/-! The queues under every command: every stored frame in exactly one place, empty queues for neighbours that are not heard, and an
in-flight set at the head of its queue (R63, R66, R67, R99, R101). -/

namespace Sys2Proof.Machine

open Sys2Proof

/-! ### Places -/

/-- The frames that stand in a place, head first. -/
def State.standing (s : State) : Place → List Handle
  | .queue n => s.queue n
  | .delivery => s.store.delivery

/-- A record's fields suit the place (R63). -/
def Place.Fits : Place → FrameRec → Prop
  | .queue n, f => Queued n f
  | .delivery, f => Delivered f

/-- The length and the destination that every stored frame has. -/
def FrameRec.Sized (f : FrameRec) : Prop := 1 ≤ f.len ∧ f.len ≤ 1440 ∧ f.dest ≠ 0 ∧ f.dest ≠ 4095

/-- Every record in use stands in one place with the fields of its place, but for those that an operation has just taken out. -/
structure Stored (loose : Handle → Prop) (s : State) : Prop where
  held : ∀ p h, h ∈ s.standing p → ∃ f, s.frame h = some f ∧ p.Fits f
  placed : ∀ h f, s.frame h = some f → loose h ∨ ∃ p, h ∈ s.standing p
  nodup : ∀ p, (s.standing p).Nodup
  short : ∀ n, (s.queue n).length ≤ 32
  apart : ∀ h, loose h → ∀ p, h ∉ s.standing p
  sized : ∀ h f, s.frame h = some f → f.Sized

/-- Neighbours that are not heard have empty queues (R67). -/
def Silent (s : State) : Prop := ∀ n, (s.nbr n).state.heard = false → s.queue n = []

/-- An in-flight set heads its neighbour's queue, 1..8 frames with their sequences (R99, R101). -/
def InFlight (s : State) : Prop :=
  ∀ ctx set, s.radio.tx = some ctx → ctx.content = .frames set →
    ∃ n, ctx.nbr = some n ∧ set.map (·.1) <+: s.queue n ∧ 1 ≤ set.length ∧ set.length ≤ 8
      ∧ ∀ hq ∈ set, ∃ f, s.frame hq.1 = some f ∧ f.seq = some hq.2

theorem storeLaw_iff {s : State} : StoreLaw s ↔ Stored (fun _ => False) s ∧ Silent s ∧ InFlight s := by
  constructor
  · rintro ⟨queued, delivered, placed, queues, delivery, silent, sized, flight⟩
    refine ⟨⟨fun p => ?_, fun h f e => .inr ?_, fun p => ?_, fun n => (queues n).2, fun _ no => no.elim, sized⟩, silent, flight⟩
    · cases p with
      | queue n => exact queued n
      | delivery => exact delivered
    · obtain there | ⟨n, there⟩ := placed h f e
      · exact ⟨.delivery, there⟩
      · exact ⟨.queue n, there⟩
    · cases p with
      | queue n => exact (queues n).1
      | delivery => exact delivery
  · rintro ⟨⟨held, placed, nodup, short, -, sized⟩, silent, flight⟩
    refine ⟨fun n => held (.queue n), held .delivery, fun h f e => ?_, fun n => ⟨nodup (.queue n), short n⟩, nodup .delivery,
      silent, sized, flight⟩
    obtain no | ⟨p, there⟩ := placed h f e
    · exact no.elim
    · cases p with
      | queue n => exact .inr ⟨n, there⟩
      | delivery => exact .inl there

theorem Place.eq_of_fits {p : Place} {f : FrameRec} (h : p.Fits f) : f.place = p := by
  cases p with
  | queue n => exact h.1
  | delivery => exact h.1

section
variable {loose : Handle → Prop} {s t : State}

/-- A frame stands in one place only. -/
theorem Stored.one_place (h : Stored loose s) {p q : Place} {j : Handle} (a : j ∈ s.standing p) (b : j ∈ s.standing q) : p = q := by
  obtain ⟨f, e, fits⟩ := h.held p j a
  obtain ⟨f', e', fits'⟩ := h.held q j b
  obtain rfl : f = f' := Option.some.inj (e.symm.trans e')
  rw [← Place.eq_of_fits fits, Place.eq_of_fits fits']

/-- A free handle stands nowhere. -/
theorem Stored.nowhere (h : Stored loose s) {j : Handle} (free : s.frame j = none) (p : Place) : j ∉ s.standing p := by
  intro there
  obtain ⟨f, e, -⟩ := h.held p j there
  rw [free] at e
  cases e

theorem Stored.congr (h : Stored loose s) {loose' : Handle → Prop} (same : ∀ j, loose' j ↔ loose j) : Stored loose' s := by
  obtain rfl : loose' = loose := funext fun j => propext (same j)
  exact h

theorem State.standing_eq (queues : t.store.queues = s.store.queues) (delivery : t.store.delivery = s.store.delivery) (p : Place) :
    t.standing p = s.standing p := by
  cases p with
  | queue n => exact State.queue_eq queues n
  | delivery => exact delivery

theorem Stored.of_store (h : Stored loose s) (frames : t.store.frames = s.store.frames) (queues : t.store.queues = s.store.queues)
    (delivery : t.store.delivery = s.store.delivery) : Stored loose t := by
  have there := State.standing_eq queues delivery
  have recs := State.frame_eq frames
  refine ⟨fun p j m => ?_, fun j f e => ?_, fun p => there p ▸ h.nodup p, fun n => State.queue_eq queues n ▸ h.short n,
    fun j l p => there p ▸ h.apart j l p, fun j f e => h.sized j f (recs j ▸ e)⟩
  · rw [there] at m
    rw [recs]
    exact h.held p j m
  · obtain l | ⟨p, m⟩ := h.placed j f (recs j ▸ e)
    · exact .inl l
    · exact .inr ⟨p, there p ▸ m⟩

theorem Stored.of_changes {ps : List Piece} (h : Stored loose s) (k : Changes ps s t)
    (frames : ps.contains .frames = false := by rfl) (queues : ps.contains .queues = false := by rfl)
    (delivery : ps.contains .delivery = false := by rfl) : Stored loose t :=
  h.of_store (k .frames frames) (k .queues queues) (k .delivery delivery)

/-- A record that stands nowhere joins the tail of a place. -/
theorem Stored.put (h : Stored loose s) {j : Handle} {f : FrameRec} {p : Place} (frames : t.store.frames = s.store.frames.put j (some f))
    (tail : ∀ q, t.standing q = if q = p then s.standing p ++ [j] else s.standing q) (fits : p.Fits f) (sized : f.Sized)
    (nowhere : ∀ q, j ∉ s.standing q) (room : ∀ n, p = .queue n → (s.queue n).length < 32) :
    Stored (fun x => x ≠ j ∧ loose x) t := by
  have recs : ∀ x, t.frame x = if x = j then some f else s.frame x := fun x => by
    unfold State.frame
    rw [frames, Tab.look_put]
  have among : ∀ q x, x ∈ t.standing q ↔ x ∈ s.standing q ∨ (q = p ∧ x = j) := fun q x => by
    rw [tail]
    split
    · next e => simp [e]
    · next e => simp [e]
  refine ⟨fun q x m => ?_, fun x f' e => ?_, fun q => ?_, fun n => ?_, fun x l q m => ?_, fun x f' e => ?_⟩
  · obtain old | ⟨rfl, rfl⟩ := (among q x).1 m
    · rw [recs, if_neg fun e : x = j => nowhere q (e ▸ old)]
      exact h.held q x old
    · rw [recs, if_pos rfl]
      exact ⟨f, rfl, fits⟩
  · rw [recs] at e
    split at e
    · next here => exact .inr ⟨p, (among p x).2 (.inr ⟨rfl, here⟩)⟩
    · next other =>
      obtain l | ⟨q, m⟩ := h.placed x f' e
      · exact .inl ⟨other, l⟩
      · exact .inr ⟨q, (among q x).2 (.inl m)⟩
  · rw [tail]
    split
    · exact List.nodup_append.2 ⟨h.nodup p, List.nodup_singleton _, fun a ha b hb e => nowhere p (by
        rw [← List.mem_singleton.1 hb, ← e]
        exact ha)⟩
    · exact h.nodup q
  · have queue : t.queue n = if Place.queue n = p then s.standing p ++ [j] else s.queue n := tail (.queue n)
    rw [queue]
    split
    · next here =>
      subst here
      have short := room n rfl
      simp only [State.standing, List.length_append, List.length_singleton]
      omega
    · exact h.short n
  · obtain old | ⟨-, rfl⟩ := (among q x).1 m
    · exact h.apart x l.2 q old
    · exact l.1 rfl
  · rw [recs] at e
    split at e
    · exact Option.some.inj e ▸ sized
    · exact h.sized x f' e

/-- Frames leave a place: they are loose until they are released or stand elsewhere. -/
theorem Stored.loosen (h : Stored loose s) {p : Place} {out : List Handle} (frames : t.store.frames = s.store.frames)
    (others : ∀ q, q ≠ p → t.standing q = s.standing q) (perm : (out ++ t.standing p).Perm (s.standing p)) :
    Stored (fun x => x ∈ out ∨ loose x) t := by
  have recs := State.frame_eq frames
  have nodup : (out ++ t.standing p).Nodup := perm.nodup_iff.2 (h.nodup p)
  have among : ∀ q x, x ∈ t.standing q → x ∈ s.standing q := fun q x m => by
    by_cases here : q = p
    · subst here
      exact perm.subset (List.mem_append.2 (.inr m))
    · exact others q here ▸ m
  refine ⟨fun q x m => recs x ▸ h.held q x (among q x m), fun x f e => ?_, fun q => ?_, fun n => ?_, fun x l q m => ?_,
    fun x f e => h.sized x f (recs x ▸ e)⟩
  · obtain l | ⟨q, m⟩ := h.placed x f (recs x ▸ e)
    · exact .inl (.inr l)
    · by_cases here : q = p
      · subst here
        obtain gone | stays := List.mem_append.1 (perm.symm.subset m)
        · exact .inl (.inl gone)
        · exact .inr ⟨q, stays⟩
      · exact .inr ⟨q, (others q here).symm ▸ m⟩
  · by_cases here : q = p
    · subst here
      exact (List.nodup_append.1 nodup).2.1
    · rw [others q here]
      exact h.nodup q
  · by_cases here : Place.queue n = p
    · have length := perm.length_eq
      rw [List.length_append, ← here] at length
      have old := h.short n
      change _ + (t.queue n).length = (s.queue n).length at length
      omega
    · have same : t.queue n = s.queue n := others _ here
      rw [same]
      exact h.short n
  · obtain gone | l := l
    · by_cases here : q = p
      · subst here
        exact (List.nodup_append.1 nodup).2.2 x gone x m rfl
      · exact here (h.one_place (among q x m) (perm.subset (List.mem_append.2 (.inl gone))))
    · exact h.apart x l q (among q x m)

/-- A loose record becomes free. -/
theorem Stored.free (h : Stored loose s) {j : Handle} (frames : t.store.frames = s.store.frames.put j none)
    (queues : t.store.queues = s.store.queues) (delivery : t.store.delivery = s.store.delivery) (nowhere : ∀ q, j ∉ s.standing q) :
    Stored (fun x => x ≠ j ∧ loose x) t := by
  have there := State.standing_eq queues delivery
  have recs : ∀ x, t.frame x = if x = j then none else s.frame x := fun x => by
    unfold State.frame
    rw [frames, Tab.look_put]
  refine ⟨fun q x m => ?_, fun x f e => ?_, fun q => there q ▸ h.nodup q, fun n => State.queue_eq queues n ▸ h.short n,
    fun x l q => there q ▸ h.apart x l.2 q, fun x f e => ?_⟩
  · rw [there] at m
    rw [recs, if_neg fun e : x = j => nowhere q (e ▸ m)]
    exact h.held q x m
  · rw [recs] at e
    split at e
    · cases e
    · next other =>
      obtain l | ⟨q, m⟩ := h.placed x f e
      · exact .inl ⟨other, l⟩
      · exact .inr ⟨q, there q ▸ m⟩
  · rw [recs] at e
    split at e
    · cases e
    · exact h.sized x f e

/-- A handle without a record is not loose. -/
theorem Stored.forget (h : Stored loose s) {j : Handle} (free : s.frame j = none) : Stored (fun x => x ≠ j ∧ loose x) s := by
  refine ⟨h.held, fun x f e => ?_, h.nodup, h.short, fun x l => h.apart x l.2, h.sized⟩
  have other : x ≠ j := fun same => by
    rw [same, free] at e
    cases e
  exact (h.placed x f e).imp_left fun l => ⟨other, l⟩

theorem Stored.release (h : Stored loose s) {j : Handle} (nowhere : ∀ q, j ∉ s.standing q) :
    Stored (fun x => x ≠ j ∧ loose x) (s.release j) := by
  cases e : s.frame j with
  | none =>
    rw [State.release_none e]
    exact h.forget e
  | some f =>
    rw [State.release_some e]
    exact h.free rfl rfl rfl nowhere

theorem Stored.discard (h : Stored loose s) {j : Handle} (why : Reason) (nowhere : ∀ q, j ∉ s.standing q) :
    Stored (fun x => x ≠ j ∧ loose x) (s.discard why j) :=
  (h.release nowhere).of_changes (changes_countDiscard _ why)

/-- A record that stands in a place changed in fields of that place. -/
theorem Stored.refit (h : Stored loose s) {j : Handle} {f : FrameRec} {p : Place} (there : j ∈ s.standing p) (fits : p.Fits f)
    (sized : f.Sized) : Stored loose (s.setFrame j (some f)) := by
  have recs := s.frame_setFrame j (f := some f)
  refine ⟨fun q x m => ?_, fun x f' e => ?_, h.nodup, h.short, h.apart, fun x f' e => ?_⟩
  · rw [recs]
    split
    · next e =>
      subst e
      obtain rfl := h.one_place m there
      exact ⟨f, rfl, fits⟩
    · exact h.held q x m
  · rw [recs] at e
    split at e
    · next e' => exact .inr ⟨p, e' ▸ there⟩
    · exact h.placed x f' e
  · rw [recs] at e
    split at e
    · exact Option.some.inj e ▸ sized
    · exact h.sized x f' e

/-- The head of a queue taken out of it. -/
theorem Stored.setQueue (h : Stored loose s) (n : NbrIdx) {out rest : List Handle} (perm : (out ++ rest).Perm (s.queue n)) :
    Stored (fun x => x ∈ out ∨ loose x) (s.setQueue n rest) := by
  have there : ∀ q, (s.setQueue n rest).standing q = if q = .queue n then rest else s.standing q := fun q => by
    cases q with
    | queue m =>
      simp only [State.standing, State.queue_setQueue, Place.queue.injEq]
    | delivery => rfl
  refine h.loosen (p := .queue n) rfl (fun q other => ?_) ?_
  · rw [there, if_neg other]
  · rw [there, if_pos rfl]
    exact perm

end

/-- A handle taken out of a queue and its record freed. -/
theorem Stored.unqueue {s : State} (h : Stored (fun _ => False) s) {n : NbrIdx} {j : Handle} (there : j ∈ s.queue n) :
    Stored (fun x => x = j) (s.unqueue n j) :=
  (h.setQueue n (out := [j]) (List.perm_cons_erase there).symm).congr fun x => by simp

/-- What was loose is settled once the last loose record is. -/
theorem Stored.settled {s : State} {j : Handle} (h : Stored (fun x => x ≠ j ∧ x = j) s) : Stored (fun _ => False) s :=
  h.congr fun _ => ⟨False.elim, fun ⟨a, b⟩ => a b⟩

/-! ### Lists of frames discarded -/

/-- The first loose record is dealt with, the rest stay loose. -/
theorem Stored.tail {s : State} {j : Handle} {rest : List Handle} (h : Stored (fun x => x ≠ j ∧ x ∈ j :: rest) s)
    (nodup : (j :: rest).Nodup) : Stored (· ∈ rest) s := by
  refine h.congr fun x => ?_
  rw [List.mem_cons]
  constructor
  · intro m
    exact ⟨fun e => (List.nodup_cons.1 nodup).1 (e ▸ m), .inr m⟩
  · rintro ⟨other, e | m⟩
    · exact absurd e other
    · exact m

theorem Stored.discardAll {s : State} (why : Reason) {out : List Handle} (nodup : out.Nodup) (h : Stored (· ∈ out) s) :
    Stored (fun _ => False) (out.foldl (fun s j => s.discard why j) s) := by
  induction out generalizing s with
  | nil => exact h.congr fun _ => by simp
  | cons j rest ih =>
    have first := h.discard (j := j) why (h.apart j List.mem_cons_self)
    exact ih (List.nodup_cons.1 nodup).2 (first.tail nodup)

theorem State.discard_setQueue (s : State) (n : NbrIdx) (q : List Handle) (why : Reason) (j : Handle) :
    (s.setQueue n q).discard why j = (s.discard why j).setQueue n q := by
  unfold State.discard State.release
  have same : (s.setQueue n q).frame j = s.frame j := rfl
  rw [same]
  split <;> rfl

theorem State.discardAll_setQueue (s : State) (n : NbrIdx) (q : List Handle) (why : Reason) (out : List Handle) :
    out.foldl (fun s j => s.discard why j) (s.setQueue n q) = (out.foldl (fun s j => s.discard why j) s).setQueue n q := by
  induction out generalizing s with
  | nil => rfl
  | cons j rest ih =>
    rw [List.foldl_cons, State.discard_setQueue, ih]
    rfl

theorem Stored.discardHead {s : State} (h : Stored (fun _ => False) s) {n : NbrIdx} {out rest : List Handle}
    (queue : s.queue n = out ++ rest) (why : Reason) :
    Stored (fun _ => False) ((out.foldl (fun s j => s.discard why j) s).setQueue n rest) := by
  rw [← State.discardAll_setQueue]
  have nodup : (out ++ rest).Nodup := queue ▸ h.nodup (.queue n)
  refine Stored.discardAll why (List.nodup_append.1 nodup).1 ?_
  exact (h.setQueue n (out := out) (rest := rest) (by rw [queue])).congr fun _ => by simp

/-- The head frames dropped at the start of a TX slot are those in front of the queue that is left (R101). -/
theorem dropOversize_spec (cost body : Nat) (q : List Handle) (s : State) :
    ∃ out, q = out ++ (dropOversize cost body q s).2
      ∧ (dropOversize cost body q s).1 = out.foldl (fun s j => s.discard .airtime j) s := by
  induction q generalizing s with
  | nil => exact ⟨[], rfl, rfl⟩
  | cons j rest ih =>
    unfold dropOversize
    split
    · obtain ⟨out, queue, state⟩ := ih (s.discard .airtime j)
      exact ⟨j :: out, by rw [List.cons_append, ← queue], state⟩
    · exact ⟨[], rfl, rfl⟩

/-! ### Records joining a place -/

theorem Stored.appendQueue {loose : Handle → Prop} {s : State} (h : Stored loose s) {m : NbrIdx} {j : Handle} {f : FrameRec}
    (record : s.frame j = some f) (nowhere : ∀ q, j ∉ s.standing q) (hops : f.hops ≠ 0) (room : (s.queue m).length < 32) :
    Stored (fun x => x ≠ j ∧ loose x) (s.appendQueue m j) := by
  refine h.put (j := j) (p := .queue m)
    (f := { f with place := .queue m, seq := some (s.nbr m).txSeq, retries := some 0, unrouted := none }) ?_ (fun q => ?_)
    ⟨rfl, rfl, hops, by simp, 0, rfl, Nat.zero_le _⟩ (h.sized j f record) nowhere fun n e => ?_
  · rw [State.appendQueue_spec, record]
    rfl
  · cases q with
    | queue n =>
      have look : (s.appendQueue m j).queue n = if n = m then s.queue m ++ [j] else s.queue n := Tab.look_put _ _ _ _
      simpa [State.standing] using look
    | delivery => rfl
  · cases e
    exact room

theorem Stored.appendDelivery {loose : Handle → Prop} {s : State} (h : Stored loose s) {j : Handle} {f : FrameRec}
    (record : s.frame j = some f) (nowhere : ∀ q, j ∉ s.standing q) (unrouted : Bool) :
    Stored (fun x => x ≠ j ∧ loose x) (s.appendDelivery j unrouted) := by
  refine h.put (j := j) (p := .delivery)
    (f := { f with place := .delivery, seq := none, retries := none, unrouted := some unrouted }) ?_ (fun q => ?_)
    ⟨rfl, by simp, rfl, rfl⟩ (h.sized j f record) nowhere fun n e => nomatch e
  · rw [State.appendDelivery_spec, record]
    rfl
  · cases q with
    | queue n => rfl
    | delivery => rfl

/-- A record is made for a free handle; it is loose until it joins a place. -/
theorem Stored.allocate {s : State} (h : Stored (fun _ => False) s) {j : Handle} (free : s.frame j = none) {payload : List Byte}
    {dest : BitVec 12} (fit : Storable dest payload) (ing : Ingress) (cls : BitVec 3) (hops : BitVec 4) :
    Stored (fun x => x = j) (s.allocate j ing dest cls hops payload)
      ∧ ∃ f, (s.allocate j ing dest cls hops payload).frame j = some f ∧ f.hops = hops ∧ f.Sized := by
  have recs : ∀ x, (s.allocate j ing dest cls hops payload).frame x = if x = j then _ else s.frame x :=
    fun x => Tab.look_put _ _ _ _
  have sized : ∀ f, (s.allocate j ing dest cls hops payload).frame j = some f → f.hops = hops ∧ f.Sized := fun f e => by
    rw [recs, if_pos rfl] at e
    obtain rfl := Option.some.inj e
    exact ⟨rfl, fit⟩
  refine ⟨⟨fun p x m => ?_, fun x f e => ?_, h.nodup, h.short, fun x e p m => ?_, fun x f e => ?_⟩, ?_⟩
  · rw [recs, if_neg fun e : x = j => h.nowhere free p (e ▸ m)]
    exact h.held p x m
  · by_cases here : x = j
    · exact .inl here
    · rw [recs, if_neg here] at e
      exact (h.placed x f e).imp_left False.elim
  · exact h.nowhere free p (e ▸ m)
  · by_cases here : x = j
    · exact (sized f (here ▸ e)).2
    · rw [recs, if_neg here] at e
      exact h.sized x f e
  · have some_ : ∃ f, (s.allocate j ing dest cls hops payload).frame j = some f := ⟨_, by rw [recs, if_pos rfl]⟩
    obtain ⟨f, e⟩ := some_
    exact ⟨f, e, sized f e⟩

/-! ### Neighbours that are not heard -/

theorem Silent.of {s t : State} (h : Silent s) (states : ∀ n, (t.nbr n).state = (s.nbr n).state)
    (queues : ∀ n, s.queue n = [] → t.queue n = []) : Silent t :=
  fun n quiet => queues n (h n (states n ▸ quiet))

theorem Silent.of_changes {s t : State} {ps : List Piece} (h : Silent s) (k : Changes ps s t)
    (nbrs : ps.contains .nbrs = false := by rfl) (queues : ps.contains .queues = false := by rfl) : Silent t :=
  h.of (fun n => congrArg Nbr.state (State.nbr_eq (k .nbrs nbrs) n)) fun n e => (State.queue_eq (k .queues queues) n).trans e

theorem Silent.setNbr {s : State} (h : Silent s) (n : NbrIdx) {r : Nbr} (state : r.state = (s.nbr n).state) : Silent (s.setNbr n r) := by
  refine h.of (fun m => ?_) fun _ => id
  rw [State.nbr_setNbr]
  split
  · next e => rw [e, state]
  · rfl

theorem Silent.appendQueue {s : State} (h : Silent s) {m : NbrIdx} (heard : (s.nbr m).state.heard = true) (j : Handle) :
    Silent (s.appendQueue m j) := by
  intro n quiet
  have states : ((s.appendQueue m j).nbr n).state = (s.nbr n).state := by
    have look : (s.appendQueue m j).nbr n = if n = m then { s.nbr m with txSeq := (s.nbr m).txSeq + 1 } else s.nbr n :=
      Tab.look_put _ _ _ _
    rw [look]
    split
    · next e => rw [e]
    · rfl
  rw [states] at quiet
  have other : n ≠ m := fun e => by
    rw [e, heard] at quiet
    cases quiet
  have look : (s.appendQueue m j).queue n = if n = m then s.queue m ++ [j] else s.queue n := Tab.look_put _ _ _ _
  rw [look, if_neg other]
  exact h n quiet

theorem Silent.setQueue {s : State} (h : Silent s) {n : NbrIdx} {q : List Handle} (sub : s.queue n = [] → q = []) :
    Silent (s.setQueue n q) := by
  refine h.of (fun _ => rfl) fun m e => ?_
  rw [State.queue_setQueue]
  split
  · next here => exact sub (here ▸ e)
  · exact e

/-! ### The laws together -/

theorem SettingsLaw.of_changes {s t : State} {ps : List Piece} (h : SettingsLaw s) (k : Changes ps s t)
    (settings : ps.contains .settings = false := by rfl) : SettingsLaw t :=
  (congrArg LinkSettings.InRange (k .settings settings)).mpr h

/-- The laws of the queues but for in-flight sets, with the laws that say where a frame may go. -/
structure Lodged (loose : Handle → Prop) (s : State) : Prop where
  path : PathLaw s
  settings : SettingsLaw s
  stored : Stored loose s
  silent : Silent s

section
variable {loose : Handle → Prop} {s t : State}

theorem Lodged.of_changes {ps : List Piece} (h : Lodged loose s) (k : Changes ps s t)
    (nbrs : ps.contains .nbrs = false := by rfl) (entries : ps.contains .entries = false := by rfl)
    (settings : ps.contains .settings = false := by rfl) (frames : ps.contains .frames = false := by rfl)
    (queues : ps.contains .queues = false := by rfl) (delivery : ps.contains .delivery = false := by rfl) : Lodged loose t where
  path := h.path.of_changes k nbrs entries
  settings := h.settings.of_changes k settings
  stored := h.stored.of_changes k frames queues delivery
  silent := h.silent.of_changes k nbrs queues

theorem Lodged.setNbr (h : Lodged loose s) (n : NbrIdx) {r : Nbr} (state : r.state = (s.nbr n).state) : Lodged loose (s.setNbr n r) where
  path := h.path.setNbr n state
  settings := h.settings
  stored := h.stored.of_changes (changes_setNbr s n r)
  silent := h.silent.setNbr n state

theorem Lodged.frameLookup (h : Lodged loose s) (q : Key) : Lodged loose (s.frameLookup q).2 where
  path := h.path.frameLookup q
  settings := h.settings.of_changes (changes_frameLookup s q)
  stored := h.stored.of_changes (changes_frameLookup s q)
  silent := h.silent.of_changes (changes_frameLookup s q)

theorem Lodged.discard (h : Lodged loose s) {j : Handle} (why : Reason) (nowhere : ∀ q, j ∉ s.standing q) :
    Lodged (fun x => x ≠ j ∧ loose x) (s.discard why j) where
  path := h.path.of_changes (changes_discard s why j)
  settings := h.settings.of_changes (changes_discard s why j)
  stored := h.stored.discard why nowhere
  silent := h.silent.of_changes (changes_discard s why j)

/-- The next hop of a LIVE entry is heard. -/
theorem PathLaw.heard_of_live (h : PathLaw s) {i : EntryIdx} {r : Route} {m : NbrIdx} (entry : s.entry i = some r)
    (live : r.state = .live) (action : r.action = .forward m) : (s.nbr m).state.heard = true := by
  rw [((h i r entry).1 m action).2.1 live]
  rfl

/-- A queue with room for one more holds fewer than 32 frames. -/
theorem SettingsLaw.short_of_room (h : SettingsLaw s) {m : NbrIdx} (room : s.queueHasRoom m = true) : (s.queue m).length < 32 := by
  obtain ⟨-, -, -, -, -, -, -, -, -, -, -, -, -, -, -, limit⟩ := h
  have room := of_decide_eq_true room
  omega

/-- A record joins the queue of the next hop that a LIVE entry names. -/
theorem Lodged.appendQueue (h : Lodged loose s) {j : Handle} {f : FrameRec} {i : EntryIdx} {r : Route} {m : NbrIdx}
    (record : s.frame j = some f) (nowhere : ∀ q, j ∉ s.standing q) (hops : f.hops ≠ 0) (room : s.queueHasRoom m = true)
    (entry : s.entry i = some r) (live : r.state = .live) (action : r.action = .forward m) :
    Lodged (fun x => x ≠ j ∧ loose x) (s.appendQueue m j) where
  path := h.path.appendQueue m j
  settings := h.settings
  stored := h.stored.appendQueue record nowhere hops (h.settings.short_of_room room)
  silent := h.silent.appendQueue (h.path.heard_of_live entry live action) j

theorem Lodged.appendDelivery (h : Lodged loose s) {j : Handle} {f : FrameRec} (record : s.frame j = some f)
    (nowhere : ∀ q, j ∉ s.standing q) (unrouted : Bool) : Lodged (fun x => x ≠ j ∧ loose x) (s.appendDelivery j unrouted) where
  path := h.path.of_changes (changes_appendDelivery s j unrouted)
  settings := h.settings
  stored := h.stored.appendDelivery record nowhere unrouted
  silent := h.silent.of_changes (changes_appendDelivery s j unrouted)

end

/-! ### Rescue -/

/-- Between two frames of a rescue: the frames still to be rescued are loose, and came from a transmit queue. -/
structure Rescuing (rest : List Handle) (s : State) : Prop extends Lodged (· ∈ rest) s where
  hops : ∀ x ∈ rest, ∀ f, s.frame x = some f → f.hops ≠ 0

theorem Lodged.tail {s : State} {j : Handle} {rest : List Handle} (h : Lodged (fun x => x ≠ j ∧ x ∈ j :: rest) s)
    (nodup : (j :: rest).Nodup) : Lodged (· ∈ rest) s := ⟨h.path, h.settings, h.stored.tail nodup, h.silent⟩

/-- A frame's rescue leaves the records of the others alone. -/
theorem rescueOne_frame (acc : State × Rescue) {j x : Handle} (other : x ≠ j) : (rescueOne acc j).1.frame x = acc.1.frame x := by
  have looked := fun q => State.frame_eq (congrArg FrameStore.frames (State.frameLookup_store acc.1 q)) x
  have discarded : ∀ (s : State) why, (s.discard why j).frame x = s.frame x := fun s why => by
    rw [State.frame_discard, if_neg other]
  have put : ∀ (t : Tab (Option FrameRec) 64) f, (t.put j f).look x = t.look x := fun t f => Tab.look_put_of_ne t f other
  unfold rescueOne
  split
  · rfl
  · dsimp only
    split
    · exact (discarded _ _).trans (looked _)
    · split
      · exact (discarded _ _).trans (looked _)
      · exact (put _ _).trans (looked _)
      · split
        · exact (discarded _ _).trans (looked _)
        · split
          · exact (put _ _).trans (looked _)
          · exact (discarded _ _).trans (looked _)

theorem Rescuing.rescueOne {j : Handle} {rest : List Handle} {acc : State × Rescue} (h : Rescuing (j :: rest) acc.1)
    (nodup : (j :: rest).Nodup) : Rescuing rest (rescueOne acc j).1 := by
  have lodged : Lodged (fun x => x ≠ j ∧ x ∈ j :: rest) (Machine.rescueOne acc j).1 := by
    unfold Machine.rescueOne
    split
    · next free => exact ⟨h.path, h.settings, h.stored.forget free, h.silent⟩
    · next f record =>
      have looked := h.toLodged.frameLookup { dest := f.dest, cls := f.cls, ing := f.ing }
      have nowhere := looked.stored.apart j List.mem_cons_self
      have record' := Eq.trans
        (State.frame_eq (congrArg FrameStore.frames (State.frameLookup_store acc.1 { dest := f.dest, cls := f.cls, ing := f.ing })) j)
        record
      dsimp only
      split
      · exact looked.discard _ nowhere
      · next i r won =>
        obtain ⟨entry, live⟩ := State.frameLookup_winner won
        split
        · exact looked.discard _ nowhere
        · exact looked.appendDelivery record' nowhere _
        · next m action =>
          split
          · exact looked.discard _ nowhere
          · split
            · next room => exact looked.appendQueue record' nowhere (h.hops j List.mem_cons_self f record) room entry live action
            · exact looked.discard _ nowhere
  refine ⟨lodged.tail nodup, fun x m f e => ?_⟩
  have other : x ≠ j := fun e' => (List.nodup_cons.1 nodup).1 (e' ▸ m)
  rw [rescueOne_frame acc other] at e
  exact h.hops x (List.mem_cons_of_mem _ m) f e

theorem Rescuing.all {rest : List Handle} {acc : State × Rescue} (h : Rescuing rest acc.1) (nodup : rest.Nodup) :
    Lodged (fun _ => False) (rest.foldl Machine.rescueOne acc).1 := by
  induction rest generalizing acc with
  | nil => exact ⟨h.path, h.settings, h.stored.congr fun _ => by simp, h.silent⟩
  | cons j rest ih => exact ih (h.rescueOne nodup) (List.nodup_cons.1 nodup).2

/-! ### Moves, traffic and settling -/

/-- Nothing is loose. -/
abbrev AllLodged (s : State) : Prop := Lodged (fun _ => False) s

theorem Lodged.settled {s : State} {j : Handle} (h : Lodged (fun x => x ≠ j ∧ x = j) s) : AllLodged s :=
  ⟨h.path, h.settings, h.stored.settled, h.silent⟩

section
variable {s t : State}

/-- The effects of a change of state once the record has changed and the parking rule has run (R22). -/
theorem Lodged.afterParking (h : AllLodged s) {u : State} {n : NbrIdx} {new : LinkState} (cause : LinkCause)
    (target : new = .lost ∨ new.heard = true) (moved : Changes [.nbrs, .entries] s u) (path : PathLaw u)
    (states : ∀ m, (u.nbr m).state = movedTo (fun m => (s.nbr m).state) n new m) :
    AllLodged (if new = .lost then (u.rescue n).1.lossTrigger.postLink n cause (some (u.rescue n).2) else u.postLink n cause none) := by
  have queues := State.queue_eq (moved .queues rfl)
  split
  · have emptied : Rescuing (u.queue n) (u.setQueue n []) := by
      refine ⟨⟨path.of_changes (changes_setQueue u n []), (h.settings.of_changes moved).of_changes (changes_setQueue u n []), ?_,
        fun m quiet => ?_⟩, fun x m f e => ?_⟩
      · exact ((h.stored.of_changes moved).setQueue n (out := u.queue n) (rest := []) (by simp)).congr fun _ => by simp
      · rw [State.queue_setQueue]
        split
        · rfl
        · next other =>
          have quiet : (u.nbr m).state.heard = false := quiet
          rw [states, movedTo, if_neg other] at quiet
          rw [queues]
          exact h.silent m quiet
      · rw [queues] at m
        obtain ⟨f', record, -, -, hops, -⟩ := h.stored.held (.queue n) x m
        have e : u.frame x = some f := e
        rw [State.frame_eq (moved .frames rfl), record] at e
        exact Option.some.inj e ▸ hops
    have nodup : (u.queue n).Nodup := queues n ▸ h.stored.nodup (.queue n)
    exact ((emptied.all (acc := (u.setQueue n [], ⟨0, 0⟩)) nodup).of_changes (changes_lossTrigger _)).of_changes
      (changes_post _ _ _ _)
  · next notLost =>
    have heard := target.resolve_left notLost
    refine Lodged.of_changes (ps := [.phase, .notices]) (s := u) ⟨path, h.settings.of_changes moved, h.stored.of_changes moved,
      fun m quiet => ?_⟩ (changes_post _ _ _ _)
    rw [states, movedTo] at quiet
    split at quiet
    · rw [heard] at quiet
      cases quiet
    · rw [queues]
      exact h.silent m quiet

theorem Lodged.changeState (h : AllLodged s) (n : NbrIdx) {new : LinkState} (cause : LinkCause)
    (target : new = .lost ∨ new.heard = true) : AllLodged (s.changeState n new cause) := by
  have parking := changes_parkFor (s.modNbr n fun r => { r.clearRuns with state := new }) n (s.nbr n).state new
  refine h.afterParking cause target (((changes_setNbr s n _).mono (by decide)).andThen parking)
    (h.path.parkFor (LinkState.ne_vacant_of_target target)) fun m => ?_
  exact (congrArg Nbr.state (State.nbr_eq (parking .nbrs rfl) m)).trans (s.state_after_change n m new)

theorem Lodged.move (h : AllLodged s) (k : Move s t) : AllLodged t := by
  cases k with
  | revise n revised => exact h.setNbr n revised.state
  | change n new cause _ target _ => exact h.changeState n cause target
  | tell n cause => exact h.of_changes (changes_post s _ _ _)
  | grow =>
    have same : ∀ n, ((s.mon.nbrs.each Nbr.grow).look n).state = (s.nbr n).state := fun n =>
      (congrArg Nbr.state (Tab.look_each Nbr.grow s.mon.nbrs n)).trans (Nbr.grow_state _)
    exact ⟨h.path.move .grow, h.settings, h.stored.of_store rfl rfl rfl, h.silent.of same fun _ => id⟩
  | measure b => exact h.of_changes (changes_measure s b)

/-- An allocation alone keeps the other laws. -/
theorem Lodged.allocate (h : AllLodged s) {j : Handle} (free : s.frame j = none) {payload : List Byte} {dest : BitVec 12}
    (fit : Storable dest payload) (ing : Ingress) (cls : BitVec 3) (hops : BitVec 4) :
    Lodged (fun x => x = j) (s.allocate j ing dest cls hops payload) where
  path := h.path.of_changes (changes_allocate s j ing dest cls hops payload)
  settings := h.settings
  stored := (h.stored.allocate free fit ing cls hops).1
  silent := h.silent.of_changes (changes_allocate s j ing dest cls hops payload)

theorem Lodged.traffic (h : AllLodged s) (k : Traffic s t) : AllLodged t := by
  cases k with
  | hear ctx _ => exact h.of_changes (changes_setRadio _ _)
  | failed => exact h.of_changes (ps := [.checkFail]) fun p hp => by cases p <;> cases hp <;> rfl
  | foreign => exact h.of_changes (ps := [.foreign]) fun p hp => by cases p <;> cases hp <;> rfl
  | revise n revised => exact h.setNbr n revised.state
  | look q => exact h.frameLookup q
  | drop why => exact h.of_changes (changes_countDiscard _ _)
  | deliver ing cls hops unrouted room fit =>
    obtain ⟨-, free⟩ := FrameStore.allocHandle_some room
    obtain ⟨-, f, record, -, -⟩ := h.stored.allocate free fit ing cls hops
    have made := h.allocate free fit ing cls hops
    exact (made.appendDelivery record (made.stored.apart _ rfl) unrouted).settled
  | @relay _ _ _ _ ing _ cls hops _ room fit more queueRoom entry live action =>
    obtain ⟨-, free⟩ := FrameStore.allocHandle_some room
    obtain ⟨-, f, record, kept, -⟩ := h.stored.allocate free fit ing cls hops
    have made := h.allocate free fit ing cls hops
    exact (made.appendQueue record (made.stored.apart _ rfl) (kept ▸ more) queueRoom entry live action).settled

theorem Lodged.moves (h : AllLodged s) (run : Moves s t) : AllLodged t := run_keeps (P := AllLodged) (fun _ _ => Lodged.move) h run

theorem Lodged.travels (h : AllLodged s) (run : Travels s t) : AllLodged t :=
  run_keeps (P := AllLodged) (fun _ _ => Lodged.traffic) h run

theorem Lodged.unqueue (h : AllLodged s) {n : NbrIdx} {j : Handle} (there : j ∈ s.queue n) : Lodged (fun x => x = j) (s.unqueue n j) where
  path := h.path.of_changes (changes_setQueue s n _)
  settings := h.settings
  stored := h.stored.unqueue there
  silent := h.silent.setQueue fun e => by rw [e]; rfl

theorem Lodged.settleOne (h : AllLodged s) {n : NbrIdx} (list : List Seq) {hq : Handle × Seq} (there : hq.1 ∈ s.queue n) :
    AllLodged (settleOne n list s hq) := by
  unfold Machine.settleOne
  split
  · have out := h.unqueue there
    have released : Lodged (fun x => x ≠ hq.1 ∧ x = hq.1) ((s.unqueue n hq.1).release hq.1) :=
      ⟨out.path.of_changes (changes_release _ _), out.settings.of_changes (changes_release _ _),
        out.stored.release (out.stored.apart _ rfl), out.silent.of_changes (changes_release _ _)⟩
    exact released.settled.setNbr n rfl
  · have raised : AllLodged (s.modCounters n fun c => { c with retries := bump 65535 c.retries }) := h.setNbr n rfl
    have there : hq.1 ∈ (s.modCounters n fun c => { c with retries := bump 65535 c.retries }).queue n := there
    unfold State.retryFrame
    dsimp only
    generalize State.modCounters s n _ = u at *
    split
    · exact raised
    · next f record =>
      split
      · have out := raised.unqueue there
        exact (out.discard .retry (out.stored.apart _ rfl)).settled
      · next within =>
        obtain ⟨f', record', place, unrouted, hops, seq, -⟩ := raised.stored.held (.queue n) _ there
        obtain rfl : f = f' := Option.some.inj (record.symm.trans record')
        have limit : u.mon.settings.retryLimit ≤ 15 := by
          obtain ⟨-, -, -, -, -, -, -, -, -, -, -, -, limit, -⟩ := raised.settings
          exact limit
        have sized := raised.stored.sized _ _ record
        exact ⟨raised.path.of_changes (changes_setFrame _ _ _), raised.settings,
          raised.stored.refit (p := .queue n) there ⟨place, unrouted, hops, seq, _, rfl, by omega⟩ sized,
          raised.silent.of_changes (changes_setFrame _ _ _)⟩

/-- Settling one frame leaves the others of the queue in it. -/
theorem queue_settleOne (s : State) (n : NbrIdx) (list : List Seq) (hq : Handle × Seq) {x : Handle} (other : x ≠ hq.1)
    (there : x ∈ s.queue n) : x ∈ (settleOne n list s hq).queue n := by
  have left : x ∈ (s.queue n).erase hq.1 := (List.mem_erase_of_ne other).2 there
  have unqueued : ∀ u : State, u.store.queues = s.store.queues → (u.unqueue n hq.1).queue n = (s.queue n).erase hq.1 := fun u e => by
    unfold State.unqueue
    rw [State.queue_setQueue, if_pos rfl, State.queue_eq e]
  unfold settleOne
  split
  · have same : ((s.unqueue n hq.1).release hq.1).queue n = (s.unqueue n hq.1).queue n :=
      State.queue_eq (changes_release _ _ .queues rfl) n
    have kept : x ∈ ((s.unqueue n hq.1).release hq.1).queue n := by
      rw [same, unqueued s rfl]
      exact left
    exact kept
  · unfold State.retryFrame
    dsimp only
    split
    · exact there
    · split
      · rw [State.queue_eq (changes_discard _ .retry hq.1 .queues rfl) n]
        exact (congrArg (x ∈ ·) (unqueued _ rfl)).mpr left
      · exact there

theorem Lodged.settle (h : AllLodged s) {n : NbrIdx} {set : List (Handle × Seq)} (list : List Seq) (nodup : (set.map (·.1)).Nodup)
    (there : ∀ hq ∈ set, hq.1 ∈ s.queue n) : AllLodged (s.settle n set list) := by
  suffices each : AllLodged (set.foldl (Machine.settleOne n list) s) from each.setNbr n rfl
  induction set generalizing s with
  | nil => exact h
  | cons hq rest ih =>
    obtain ⟨fresh, nodup⟩ := List.nodup_cons.1 nodup
    refine ih (h.settleOne list (there hq List.mem_cons_self)) nodup fun x m => ?_
    refine queue_settleOne s n list hq (fun e => fresh ?_) (there x (List.mem_cons_of_mem _ m))
    exact List.mem_map.2 ⟨x, m, e⟩

end

/-! ### In-flight sets -/

/-- The new front end holds no in-flight set that the old one did not hold for the same neighbour. -/
def Radio.Follows (old new : Radio) : Prop :=
  ∀ ctx set, new.tx = some ctx → ctx.content = .frames set → ∃ c, old.tx = some c ∧ c.nbr = ctx.nbr ∧ c.content = .frames set

theorem Radio.follows_of_tx {old new : Radio} (h : new.tx = old.tx) : old.Follows new :=
  fun ctx _ e content => ⟨ctx, h ▸ e, rfl, content⟩

theorem Radio.follows_of_none {old new : Radio} (h : new.tx = none) : old.Follows new := fun ctx _ e _ => by
  rw [h] at e
  cases e

/-- A context changed in neither neighbour nor content. -/
theorem Radio.follows_of_ctx {old new : Radio} {c ctx : TxCtx} (was : old.tx = some c) (now : new.tx = some ctx)
    (nbr : ctx.nbr = c.nbr) (content : ctx.content = c.content) : old.Follows new := fun ctx' set e e' => by
  rw [now] at e
  obtain rfl := Option.some.inj e
  exact ⟨c, was, nbr.symm, content.symm.trans e'⟩

section
variable {s t : State}

/-- In-flight sets stay where queues grow at the tail and their records keep their sequences. -/
theorem InFlight.of (h : InFlight s) (radio : s.radio.Follows t.radio) (queues : ∀ n, s.queue n <+: t.queue n)
    (seqs : ∀ n j f, j ∈ s.queue n → s.frame j = some f → ∃ f', t.frame j = some f' ∧ f'.seq = f.seq) : InFlight t := by
  intro ctx set tx content
  obtain ⟨c, was, named, content'⟩ := radio ctx set tx content
  obtain ⟨n, nbr, head, low, high, recs⟩ := h c set was content'
  refine ⟨n, named.symm.trans nbr, head.trans (queues n), low, high, fun hq m => ?_⟩
  obtain ⟨f, record, seq⟩ := recs hq m
  obtain ⟨f', record', seq'⟩ := seqs n hq.1 f (head.subset (List.mem_map_of_mem m)) record
  exact ⟨f', record', seq'.trans seq⟩

theorem InFlight.of_radio (h : InFlight s) (radio : s.radio.Follows t.radio) (frames : t.store.frames = s.store.frames)
    (queues : t.store.queues = s.store.queues) : InFlight t :=
  h.of radio (fun n => State.queue_eq queues n ▸ List.prefix_refl _) fun _ j f _ e => ⟨f, State.frame_eq frames j ▸ e, rfl⟩

theorem InFlight.of_changes {ps : List Piece} (h : InFlight s) (k : Changes ps s t) (frames : ps.contains .frames = false := by rfl)
    (queues : ps.contains .queues = false := by rfl) (radio : ps.contains .radio = false := by rfl) : InFlight t :=
  h.of_radio (Radio.follows_of_tx (congrArg Radio.tx (k .radio radio))) (k .frames frames) (k .queues queues)

theorem inFlight_of_none (h : t.radio.tx = none) : InFlight t := fun ctx set e _ => by
  rw [h] at e
  cases e

theorem InFlight.traffic (h : InFlight s) (lodged : AllLodged s) (k : Traffic s t) : InFlight t := by
  have other : ∀ {n : NbrIdx} {j x : Handle} {len : Nat}, s.store.allocHandle len = some j → x ∈ s.queue n → x ≠ j :=
    fun room there e => lodged.stored.nowhere (FrameStore.allocHandle_some room).2 (.queue _) (e ▸ there)
  have put : ∀ {tab : Tab (Option FrameRec) 64} {j x : Handle} {f f' : Option FrameRec}, x ≠ j →
      ((tab.put j f).put j f').look x = tab.look x := fun e => by
    rw [Tab.look_put_of_ne _ _ e, Tab.look_put_of_ne _ _ e]
  cases k with
  | hear ctx _ => exact h.of_radio (Radio.follows_of_tx rfl) rfl rfl
  | failed => exact h
  | foreign => exact h
  | revise n _ => exact h.of_changes (changes_setNbr s n _)
  | look q => exact h.of_changes (changes_frameLookup s q)
  | drop why => exact h
  | deliver ing cls hops unrouted room _ =>
    exact h.of (Radio.follows_of_tx rfl) (fun _ => List.prefix_refl _) fun n x f there e =>
      ⟨f, Eq.trans (put (other room there)) e, rfl⟩
  | @relay j i r m ing dest cls hops payload room _ _ _ _ _ _ =>
    refine h.of (Radio.follows_of_tx rfl) (fun n => ?_) fun n x f there e => ⟨f, Eq.trans (put (other room there)) e, rfl⟩
    have look : ((s.allocate j ing dest cls hops payload).appendQueue m j).queue n
        = if n = m then s.queue m ++ [j] else s.queue n := Tab.look_put _ _ _ _
    rw [look]
    split
    · next e => exact e ▸ List.prefix_append _ _
    · exact List.prefix_refl _

theorem State.trigger_tx (s : State) : s.trigger.1.radio.tx = s.radio.tx := by
  have restarted : s.restartScan.radio.tx = s.radio.tx := by
    unfold State.restartScan
    split <;> rfl
  unfold State.trigger
  split
  · exact restarted
  · rfl
  · exact restarted
  · rfl

theorem InFlight.boundaryTrigger (h : InFlight s) : InFlight s.boundaryTrigger := by
  unfold State.boundaryTrigger
  split
  · exact h.of_radio (Radio.follows_of_tx s.trigger_tx) (changes_trigger s .frames rfl) (changes_trigger s .queues rfl)
  · exact h

theorem InFlight.lossTrigger (h : InFlight s) : InFlight s.lossTrigger := by
  unfold State.lossTrigger
  split
  · exact h.of_radio (Radio.follows_of_tx s.trigger_tx) (changes_trigger s .frames rfl) (changes_trigger s .queues rfl)
  · exact h

/-- An empty queue written empty is no change. -/
theorem State.setQueue_empty {n : NbrIdx} (h : s.queue n = []) : s.setQueue n [] = s := by
  have same : s.store.queues.put n [] = s.store.queues := by
    rw [← h]
    exact Tab.put_look _ _
  unfold State.setQueue
  rw [same]

/-- An empty queue is rescued with counts 0, and nothing changes (R97). -/
theorem State.rescue_empty {n : NbrIdx} (h : s.queue n = []) : s.rescue n = (s, ⟨0, 0⟩) := by
  unfold State.rescue
  rw [h, State.setQueue_empty h]
  rfl

/-- The loss of a neighbour with an empty queue touches no in-flight set. -/
theorem InFlight.changeState (h : InFlight s) (n : NbrIdx) {new : LinkState} (cause : LinkCause)
    (quiet : new = .lost → s.queue n = []) : InFlight (s.changeState n new cause) := by
  have moved := (h.of_changes (changes_setNbr s n { (s.nbr n).clearRuns with state := new })).of_changes
    (changes_parkFor _ n (s.nbr n).state new)
  have queue := State.queue_eq (changes_parkFor (s.modNbr n fun r => { r.clearRuns with state := new }) n (s.nbr n).state new
    .queues rfl) n
  unfold State.changeState State.afterChange
  dsimp only
  split
  · next lost =>
    rw [State.rescue_empty (queue.trans (quiet lost))]
    exact moved.lossTrigger.of_changes (changes_post _ _ _ _)
  · exact moved.of_changes (changes_post _ _ _ _)

end

/-! ### A fresh in-flight set -/

/-- The burst airtime once a frame has joined the set (R101). -/
def burstWith (cost : Nat) (len : Handle → Nat) (used : Option Nat) (j : Handle) : Nat :=
  match used with
  | none => airtime cost (len j)
  | some u => u + 128 + airtime cost (len j)

theorem fitFrames_cons (cost body : Nat) (len : Handle → Nat) (room : Nat) (used : Option Nat) (j : Handle) (rest : List Handle) :
    fitFrames cost body len (room + 1) used (j :: rest) =
      if burstWith cost len used j ≤ body then j :: fitFrames cost body len room (some (burstWith cost len used j)) rest else [] := by
  cases used <;> rfl

theorem fitFrames_nil (cost body : Nat) (len : Handle → Nat) (room : Nat) (used : Option Nat) :
    fitFrames cost body len room used [] = [] := by
  cases room <;> rfl

theorem fitFrames_prefix (cost body : Nat) (len : Handle → Nat) (room : Nat) (used : Option Nat) (q : List Handle) :
    fitFrames cost body len room used q <+: q := by
  induction room generalizing used q with
  | zero => exact List.nil_prefix
  | succ room ih =>
    cases q with
    | nil => exact List.nil_prefix
    | cons j rest =>
      rw [fitFrames_cons]
      split
      · exact List.prefix_cons_inj j |>.2 (ih _ rest)
      · exact List.nil_prefix

theorem fitFrames_length (cost body : Nat) (len : Handle → Nat) (room : Nat) (used : Option Nat) (q : List Handle) :
    (fitFrames cost body len room used q).length ≤ room := by
  induction room generalizing used q with
  | zero => exact Nat.le_refl _
  | succ room ih =>
    cases q with
    | nil => exact Nat.zero_le _
    | cons j rest =>
      rw [fitFrames_cons]
      split
      · exact Nat.succ_le_succ (ih _ rest)
      · exact Nat.zero_le _

theorem map_fst_pair {α β : Type} (g : α → β) (l : List α) : (l.map fun x => (x, g x)).map (·.1) = l := by
  simp [Function.comp_def]

/-- A frame of a queue has the sequence that it took there. -/
theorem Stored.frameSeq {loose : Handle → Prop} {s : State} (h : Stored loose s) {n : NbrIdx} {j : Handle} (there : j ∈ s.queue n) :
    ∃ f, s.frame j = some f ∧ f.seq = some (s.frameSeq j) := by
  obtain ⟨f, record, -, -, -, seq, -⟩ := h.held (.queue n) j there
  obtain ⟨q, e⟩ := Option.ne_none_iff_exists'.1 seq
  refine ⟨f, record, ?_⟩
  unfold State.frameSeq
  simp [record, e]

/-! ### Owners of slots -/

/-- The laws of the queues. -/
structure Queues (s : State) : Prop where
  stored : Stored (fun _ => False) s
  silent : Silent s
  flight : InFlight s

section
variable {s t : State}

theorem Lodged.queues (h : AllLodged s) (flight : InFlight s) : Queues s := ⟨h.stored, h.silent, flight⟩

theorem Queues.of_changes {ps : List Piece} (h : Queues s) (k : Changes ps s t) (nbrs : ps.contains .nbrs = false := by rfl)
    (frames : ps.contains .frames = false := by rfl) (queues : ps.contains .queues = false := by rfl)
    (delivery : ps.contains .delivery = false := by rfl) (radio : ps.contains .radio = false := by rfl) : Queues t where
  stored := h.stored.of_changes k frames queues delivery
  silent := h.silent.of_changes k nbrs queues
  flight := h.flight.of_changes k frames queues radio

/-- A change of the front end that adds no in-flight set, beside what the laws leave out. -/
theorem Queues.of_radio {ps : List Piece} (h : Queues s) (k : Changes ps s t) (radio : s.radio.Follows t.radio)
    (nbrs : ps.contains .nbrs = false := by rfl) (frames : ps.contains .frames = false := by rfl)
    (queues : ps.contains .queues = false := by rfl) (delivery : ps.contains .delivery = false := by rfl) : Queues t where
  stored := h.stored.of_changes k frames queues delivery
  silent := h.silent.of_changes k nbrs queues
  flight := h.flight.of_radio radio (k .frames frames) (k .queues queues)

theorem Queues.setRadio (h : Queues s) {r : Radio} (radio : s.radio.Follows r) : Queues (s.setRadio r) :=
  h.of_radio (changes_setRadio s r) radio

/-- The selection of a TX slot: dropped heads are released, the rest of the queue stays (R101). -/
theorem Queues.selectFrames (h : Queues s) (n : NbrIdx) (cost : Nat) :
    Stored (fun _ => False) (s.selectFrames n cost).1 ∧ Silent (s.selectFrames n cost).1
      ∧ (s.selectFrames n cost).2 <+: (s.selectFrames n cost).1.queue n ∧ (s.selectFrames n cost).2.length ≤ 8 := by
  obtain ⟨out, queue, state⟩ := dropOversize_spec cost (slotBody s.sched.slotLen) (s.queue n) s
  have dropped := changes_dropOversize s cost (slotBody s.sched.slotLen) (s.queue n)
  unfold State.selectFrames
  dsimp only
  refine ⟨?_, ?_, ?_, fitFrames_length _ _ _ _ _ _⟩
  · rw [state]
    exact h.stored.discardHead queue .airtime
  · refine (h.silent.of_changes dropped).setQueue fun e => ?_
    rw [State.queue_eq (dropped .queues rfl)] at e
    exact (List.append_eq_nil_iff.1 (queue.symm.trans e)).2
  · rw [State.queue_setQueue, if_pos rfl]
    exact fitFrames_prefix _ _ _ _ _ _

theorem Queues.openTx (h : Queues s) (n : NbrIdx) : Queues (s.openTx n) := by
  have holding : ∀ {u : State} {ctx : TxCtx}, Stored (fun _ => False) u → Silent u → ctx.content = .hold →
      Queues (u.setRadio { u.radio with tx := some ctx }) := fun {u ctx} stored silent hold => by
    refine ⟨stored.of_changes (changes_setRadio u _), silent.of_changes (changes_setRadio u _), fun ctx' set e content => ?_⟩
    obtain rfl := Option.some.inj e
    rw [hold] at content
    cases content
  obtain ⟨stored, silent, head, short⟩ := h.selectFrames n (byteCost (tierOf s.mon.settings (s.nbr n).cap ((s.nbr n).acc.map marginOf)))
  unfold State.openTx
  dsimp only
  split
  · split
    · exact holding h.stored h.silent rfl
    · split
      · exact holding stored silent rfl
      · next j rest chosen =>
        rw [chosen] at head short
        refine ⟨stored.of_changes (changes_setRadio _ _), silent.of_changes (changes_setRadio _ _), fun ctx set e content => ?_⟩
        obtain rfl := Option.some.inj e
        obtain rfl := TxContent.frames.inj content
        refine ⟨n, rfl, ?_, ?_, ?_, fun hq m => ?_⟩
        · exact (congrArg (· <+: _) (map_fst_pair _ _)).mpr head
        · simp
        · rw [List.length_map]
          exact short
        · obtain ⟨x, there, rfl⟩ := List.mem_map.1 m
          exact stored.frameSeq (head.subset there)
  · exact h

theorem Queues.slotStart (h : Queues s) : Queues s.slotStart := by
  unfold State.slotStart
  split
  · next i _ =>
    have opened := h.of_changes (changes_setSched_start s i)
    cases (s.sched.slotAt i).kind with
    | idle => exact opened
    | tx n => exact opened.openTx n
    | rx n =>
      unfold State.openOwner State.openRx
      dsimp only
      split
      · exact opened.setRadio (Radio.follows_of_tx rfl)
      · exact opened
    | beacon sec =>
      unfold State.openOwner State.openBeacon
      dsimp only
      split
      · exact opened.setRadio (Radio.follows_of_tx rfl)
      · exact opened
    | scan =>
      unfold State.openOwner State.openScan
      dsimp only
      split
      · split
        · exact opened.of_changes (changes_setScan_state _ _)
        · exact (opened.of_changes (changes_setScan_state _ _)).setRadio (Radio.follows_of_tx rfl)
      · exact opened
  · exact h

theorem Queues.bodyStart (h : Queues s) : Queues s.bodyStart := by
  refine h.of_radio (changes_bodyStart s) ?_
  unfold State.bodyStart
  split
  · exact Radio.follows_of_tx rfl
  · split
    · dsimp only
      split
      · unfold State.startBurst
        split <;> exact Radio.follows_of_tx rfl
      · unfold State.startBeacon
        split <;> exact Radio.follows_of_tx rfl
      · exact Radio.follows_of_tx rfl
    · exact Radio.follows_of_tx rfl

theorem Queues.tailStart (h : Queues s) : Queues s.tailStart := by
  refine h.of_radio (changes_tailStart s) ?_
  unfold State.tailStart
  split
  · exact Radio.follows_of_tx rfl
  · split
    · exact Radio.follows_of_tx rfl
    · dsimp only
      split
      · unfold State.rxTail
        dsimp only
        split <;> exact Radio.follows_of_tx rfl
      · exact Radio.follows_of_tx rfl

theorem Queues.endBurst (h : Queues s) : Queues s.endBurst := by
  refine h.of_radio (changes_endBurst s) ?_
  unfold State.endBurst
  split
  · next ctx _ open_ _ =>
    split
    · exact Radio.follows_of_ctx open_ rfl rfl rfl
    · exact Radio.follows_of_tx rfl
  · exact Radio.follows_of_tx rfl

theorem Queues.endAir (h : Queues s) (kind : AirKind) : Queues (s.endAir kind) := by
  refine h.of_radio (changes_endAir s kind) ?_
  unfold State.endAir
  split
  · split <;> exact Radio.follows_of_tx rfl
  · exact Radio.follows_of_tx rfl

theorem Queues.txArrival (h : Queues s) (bytes : List Byte) (code : Code) : Queues (s.txArrival bytes code) := by
  refine h.of_radio (changes_txArrival s bytes code) ?_
  unfold State.txArrival
  split
  · next ctx _ open_ _ =>
    split
    · split
      · exact Radio.follows_of_tx rfl
      · split
        · exact Radio.follows_of_tx rfl
        · unfold State.soundInTail
          split
          · split
            · split
              · exact Radio.follows_of_ctx open_ rfl rfl rfl
              · exact Radio.follows_of_tx rfl
            · exact Radio.follows_of_tx rfl
          · exact Radio.follows_of_tx rfl
    · exact Radio.follows_of_tx rfl
  · exact Radio.follows_of_tx rfl

theorem Radio.follows_cut (r : Radio) : r.Follows r.cut := by
  cases tx : r.tx with
  | none =>
    refine Radio.follows_of_none ?_
    unfold Radio.cut
    cases r.onAir <;> simp [tx]
  | some ctx =>
    cases phase : ctx.phase with
    | burst =>
      refine Radio.follows_of_none ?_
      unfold Radio.cut
      cases r.onAir <;> simp [tx, phase]
    | listen =>
      refine Radio.follows_of_tx ?_
      unfold Radio.cut
      cases r.onAir <;> simp [tx, phase]

theorem Queues.supplyAssert (h : Queues s) : Queues s.supplyAssert := by
  refine h.of_radio (changes_supplyAssert s) ?_
  unfold State.supplyAssert
  split
  · exact Radio.follows_of_tx rfl
  · exact Radio.follows_cut _

theorem Queues.slotEnd (h : Queues s) (path : PathLaw s) (settings : SettingsLaw s) : Queues s.slotEnd := by
  have lodged : AllLodged s := ⟨path, settings, h.stored, h.silent⟩
  have done : AllLodged s.slotEnd := by
    refine slotEnd_keeps (P := AllLodged) (fun _ _ => Lodged.move) (fun _ _ h k => h.of_changes k)
      (fun _ d lines next h => h.of_changes (changes_post _ _ _ _)) (fun _ p h _ => h.of_changes (changes_progressTo _ p)) lodged
      fun ctx n set list open_ named content => ?_
    obtain ⟨m, named', head, -⟩ := h.flight ctx set open_ content
    obtain rfl : n = m := Option.some.inj (named.symm.trans named')
    exact lodged.settle list (head.sublist.nodup (h.stored.nodup (.queue n))) fun hq m => head.subset (List.mem_map_of_mem m)
  refine done.queues ?_
  unfold State.slotEnd
  split
  · exact h.flight
  · exact inFlight_of_none rfl

theorem Queues.boundary (h : Queues s) (path : PathLaw s) (settings : SettingsLaw s) : Queues s.boundary := by
  have aged : ∀ ⦃s⦄, AllLodged s ∧ InFlight s → AllLodged s.ageSeeking ∧ InFlight s.ageSeeking := by
    rintro s ⟨lodged, flight⟩
    refine foldl_keeps (P := fun s => AllLodged s ∧ InFlight s) timeOut (fun u n => ?_) _ ⟨lodged.move .grow, flight⟩
    rintro ⟨lodged, flight⟩
    unfold timeOut
    split
    · next late =>
      refine ⟨lodged.changeState n .timeout (.inl rfl), flight.changeState n .timeout fun _ => lodged.silent n ?_⟩
      rw [late.1]
      rfl
    · exact ⟨lodged, flight⟩
  obtain ⟨lodged, flight⟩ := boundary_keeps (P := fun s => AllLodged s ∧ InFlight s)
    (fun _ p h _ => ⟨h.1.of_changes (changes_progressTo _ p), h.2.of_changes (changes_progressTo _ p)⟩)
    (fun _ h => ⟨h.1.of_changes (changes_count _), h.2.of_changes (changes_count _)⟩)
    (fun _ h => ⟨h.1.of_changes (changes_decideStaged _), h.2.of_changes (changes_decideStaged _)⟩) aged
    (fun _ h => ⟨h.1.of_changes (changes_boundaryTrigger _), h.2.boundaryTrigger⟩)
    ⟨⟨path, settings, h.stored, h.silent⟩, h.flight⟩
  exact lodged.queues flight

/-! ### Requests -/

theorem Queues.travels (h : Queues s) (path : PathLaw s) (settings : SettingsLaw s) (run : Travels s t) : Queues t := by
  obtain ⟨lodged, flight⟩ := run_keeps (P := fun s => AllLodged s ∧ InFlight s) (fun _ _ h k => ⟨h.1.traffic k, h.2.traffic h.1 k⟩)
    ⟨⟨path, settings, h.stored, h.silent⟩, h.flight⟩ run
  exact lodged.queues flight

theorem Queues.frameSend (h : Queues s) (path : PathLaw s) (settings : SettingsLaw s) (dest : Half) (cls hops : Byte)
    (payload : List Byte) : Queues (s.frameSend dest cls hops payload) := by
  obtain ⟨t, reply, run, e⟩ := travels_frameSend s dest cls hops payload
  rw [e]
  obtain ⟨stored, silent, flight⟩ := h.travels path settings run
  exact ⟨stored.of_store rfl rfl rfl, silent, flight⟩

theorem Queues.reply (h : Queues s) (k : Byte) (c : ResultCode) (b : ReplyBody) : Queues (s.reply k c b) :=
  h.of_changes (changes_reply s k c b)

theorem Queues.enrol (h : Queues s) (index : Byte) (nodeId : Half) (hint cap : Byte) : Queues (s.enrol index nodeId hint cap) := by
  unfold State.enrol
  split
  · next n sec _ _ =>
    split
    · split
      · next may =>
        have vacant : (s.nbr n).state = .vacant := by
          simp only [State.mayEnrol, Bool.and_eq_true, beq_iff_eq] at may
          exact may.1.2
        have empty : (s.setNbr n (Nbr.enrolled nodeId.toNat sec (capTaken cap).1)).queue n = [] :=
          h.silent n (by rw [vacant]; rfl)
        rw [State.setQueue_empty empty]
        have stored : Queues (s.setNbr n (Nbr.enrolled nodeId.toNat sec (capTaken cap).1)) := by
          refine ⟨h.stored.of_changes (changes_setNbr s n _), fun m quiet => ?_, h.flight.of_changes (changes_setNbr s n _)⟩
          rw [State.nbr_setNbr] at quiet
          split at quiet
          · next e => exact e ▸ empty
          · exact h.silent m quiet
        exact (stored.of_changes (changes_post _ (.link n) _ none)).reply _ _ _
      · exact h.reply _ _ _
    · exact h.reply _ _ _
  · exact h.reply _ _ _

theorem Queues.query (h : Queues s) (index clear : Byte) : Queues (s.query index clear) := by
  unfold State.query
  split
  · next n c _ _ =>
    cases c
    · exact h.reply _ _ _
    · have cleared : Queues (s.modNbr n fun r => { r with counters := NbrCounters.zero }) :=
        ⟨h.stored.of_changes (changes_setNbr s n _), h.silent.setNbr n rfl, h.flight.of_changes (changes_setNbr s n _)⟩
      exact cleared.reply _ _ _
  · exact h.reply _ _ _

theorem Queues.confirm (h : Queues s) (path : PathLaw s) (settings : SettingsLaw s) (index : Byte) : Queues (s.confirm index) := by
  have lodged : AllLodged s := ⟨path, settings, h.stored, h.silent⟩
  unfold State.confirm
  split
  · exact h.reply _ _ _
  · next n _ =>
    split
    · next held =>
      have flight := (h.flight.of_changes (changes_setNbr s n { (s.nbr n).clearWindow with reseed := true })).changeState n
        (new := .weak) .confirm fun e => nomatch e
      exact ((lodged.moves (moves_confirm held)).queues flight).reply _ _ _
    · exact h.reply _ _ _

/-- After the retire of a neighbour a context that holds an in-flight set names another (R109). -/
theorem Radio.retire_frames {r : Radio} {n : NbrIdx} {ctx : TxCtx} {set : List (Handle × Seq)} (tx : (r.retire n).tx = some ctx)
    (content : ctx.content = .frames set) : r.tx = some ctx ∧ ctx.nbr ≠ some n := by
  unfold Radio.retire at tx
  split at tx
  · next none_ =>
    rw [none_] at tx
    cases tx
  · next c open_ =>
    split at tx
    · dsimp only at tx
      split at tx <;>
      · obtain rfl := Option.some.inj tx
        cases content
    · next other =>
      rw [open_] at tx
      obtain rfl := Option.some.inj tx
      exact ⟨open_, other⟩

theorem frame_discardAll (s : State) (why : Reason) {out : List Handle} {x : Handle} (other : x ∉ out) :
    (out.foldl (fun s j => s.discard why j) s).frame x = s.frame x := by
  induction out generalizing s with
  | nil => rfl
  | cons j rest ih =>
    rw [List.mem_cons, not_or] at other
    rw [List.foldl_cons, ih _ other.2, State.frame_discard, if_neg other.1]

theorem Queues.discardQueue (h : Queues s) (n : NbrIdx) : Queues ((s.discardQueue n).setRadio (s.radio.retire n)) := by
  have emptied : Stored (fun _ => False) (s.discardQueue n) := h.stored.discardHead (rest := []) (by simp) .retired
  have discarded := changes_foldl (fun s j => s.discard .retired j) id (fun s j => changes_discard s .retired j) (s.queue n) s
  have queues : ∀ m, (s.discardQueue n).queue m = if m = n then [] else s.queue m := fun m => by
    unfold State.discardQueue
    rw [State.queue_setQueue]
    split
    · rfl
    · exact State.queue_eq (discarded .queues rfl) m
  refine ⟨emptied.of_changes (changes_setRadio _ _), Silent.of_changes (h.silent.of (t := s.discardQueue n) (fun m => ?_) fun m e => ?_)
    (changes_setRadio _ _), fun ctx set tx content => ?_⟩
  · exact congrArg Nbr.state (State.nbr_eq (changes_discardQueue s n .nbrs rfl) m)
  · rw [queues]
    split
    · rfl
    · exact e
  · obtain ⟨open_, other⟩ := Radio.retire_frames tx content
    obtain ⟨m, named, head, low, high, recs⟩ := h.flight ctx set open_ content
    have different : m ≠ n := fun e => other (e ▸ named)
    have queue : ((s.discardQueue n).setRadio (s.radio.retire n)).queue m = s.queue m := by
      have same := queues m
      rw [if_neg different] at same
      exact same
    refine ⟨m, named, queue ▸ head, low, high, fun hq there => ?_⟩
    have inside : hq.1 ∈ s.queue m := head.subset (List.mem_map_of_mem there)
    have outside : hq.1 ∉ s.queue n := fun m' => different (Place.queue.inj (h.stored.one_place (p := .queue m) (q := .queue n) inside m'))
    obtain ⟨f, record, seq⟩ := recs hq there
    exact ⟨f, Eq.trans (frame_discardAll s .retired outside) record, seq⟩

theorem Queues.retireRequest (h : Queues s) (index : Byte) : Queues (s.retireRequest index) := by
  unfold State.retireRequest
  split
  · exact h.reply _ _ _
  · next n _ =>
    split
    · exact h.reply _ _ _
    · have quiet := (h.of_changes (changes_freeEntries s (hopsTo n))).discardQueue n
      have empty : (s.retiring n).queue n = [] := by
        have emptied : ((s.freeEntries (hopsTo n)).discardQueue n).queue n = [] := by
          unfold State.discardQueue
          rw [State.queue_setQueue, if_pos rfl]
        unfold State.retiring
        dsimp only
        split
        · exact (State.queue_eq (changes_setSync _ none .queues rfl) n).trans emptied
        · exact emptied
      have cleared : Queues (s.retiring n) := by
        unfold State.retiring
        dsimp only
        split
        · exact quiet.of_changes (changes_setSync _ none)
        · exact quiet
      have vacated : Queues ((s.retiring n).setNbr n Nbr.vacant) := by
        refine ⟨cleared.stored.of_changes (changes_setNbr _ n _), fun m silent => ?_, cleared.flight.of_changes (changes_setNbr _ n _)⟩
        rw [State.nbr_setNbr] at silent
        split at silent
        · next e => exact e ▸ empty
        · exact cleared.silent m silent
      have retired : Queues (s.retire n) := vacated.of_changes (changes_post _ (.link n) _ none)
      exact retired.reply _ _ _

/-! ### Reads and starts -/

theorem Queues.takeDelivered (h : Queues s) {j : Handle} (head : s.store.delivery.head? = some j) : Queues (s.takeDelivered j) := by
  have there : j ∈ s.store.delivery := List.mem_of_head? head
  have k := changes_takeDelivered s j
  have out : Stored (fun x => x ∈ [j] ∨ False) { s with store := { s.store with delivery := s.store.delivery.erase j } } := by
    refine h.stored.loosen (p := .delivery) rfl (fun q other => ?_) (List.perm_cons_erase there).symm
    cases q with
    | queue n => rfl
    | delivery => exact absurd rfl other
  refine ⟨?_, h.silent.of_changes k, h.flight.of (Radio.follows_of_tx (congrArg Radio.tx (k .radio rfl)))
    (fun n => State.queue_eq (k .queues rfl) n ▸ List.prefix_refl _) fun n x f inside e => ⟨f, ?_, rfl⟩⟩
  · exact (out.release (out.apart j (.inl (List.mem_singleton.2 rfl)))).congr fun x => by simp
  · have other : x ≠ j := fun e' => nomatch h.stored.one_place (p := .queue n) (q := .delivery) inside (e' ▸ there)
    unfold State.takeDelivered
    rw [State.frame_release, if_neg other]
    exact e

theorem Queues.completeRead (h : Queues s) (port : Port s) : Queues s.completeRead := by
  unfold State.completeRead
  split
  · next item rec c reading =>
    refine Queues.of_changes ?_ (changes_setPhase _ .spent)
    cases item with
    | reply => exact h.of_changes (ps := [.reply]) fun p hp => by cases p <;> cases hp <;> rfl
    | notice src =>
      have taken : Queues (s.setLink { s.link with notices := consumeNotice src c s.link.notices }) :=
        h.of_changes (ps := [.notices]) fun p hp => by cases p <;> cases hp <;> rfl
      unfold State.consume
      dsimp only
      split
      · exact taken.of_changes (changes_releaseScanner _)
      · exact taken
    | frame j =>
      obtain ⟨-, -, -, -, head⟩ := port.reading _ rec c reading
      exact h.takeDelivered (head j rfl)
    | empty => exact h
  · exact h

theorem queues_of_cold (store : s.store = FrameStore.cold) (radio : s.radio = Radio.off) : Queues s := by
  have recs : ∀ j, s.frame j = none := fun j => by
    unfold State.frame
    rw [store]
    exact Tab.look_all _ _
  have empty : ∀ n, s.queue n = [] := fun n => by
    unfold State.queue
    rw [store]
    exact Tab.look_all _ _
  have nowhere : ∀ p, s.standing p = [] := fun p => by
    cases p with
    | queue n => exact empty n
    | delivery =>
      unfold State.standing
      rw [store]
      rfl
  refine ⟨⟨fun p j m => ?_, fun j f e => ?_, fun p => ?_, fun n => ?_, fun _ no => no.elim, fun j f e => ?_⟩, fun n _ => empty n,
    inFlight_of_none (by rw [radio]; rfl)⟩
  · rw [nowhere] at m
    cases m
  · rw [recs] at e
    cases e
  · rw [nowhere]
    exact List.nodup_nil
  · rw [empty]
    exact Nat.zero_le _
  · rw [recs] at e
    cases e

theorem Queues.beginStart (h : Queues s) (cause : StartCause) : Queues (s.beginStart cause) :=
  h.of_radio (changes_beginStart s cause) (Radio.follows_of_none rfl)

theorem Queues.restartRequest (h : Queues s) (form : Byte) : Queues (s.restartRequest form) := by
  unfold State.restartRequest
  split
  · exact h.beginStart _
  · exact queues_of_cold rfl rfl
  · exact h.reply _ _ _

theorem Queues.resetAssert (h : Queues s) : Queues s.resetAssert := by
  have low : Queues (s.setPart { s.part with resetLow := true }) :=
    h.of_changes (ps := [.resetLow]) fun p hp => by cases p <;> cases hp <;> rfl
  unfold State.resetAssert
  dsimp only
  split
  · exact low
  · exact low.beginStart _

theorem Queues.completeStart (h : Queues s) : Queues s.completeStart := by
  unfold State.completeStart
  split
  · exact h
  · exact queues_of_cold rfl rfl

theorem Queues.scheduleStop (h : Queues s) : Queues s.scheduleStop := by
  refine h.of_radio (changes_scheduleStop s) ?_
  unfold State.scheduleStop
  dsimp only
  split
  · exact Radio.follows_of_none rfl
  · exact Radio.follows_of_tx rfl

theorem Queues.scanStart (h : Queues s) : Queues s.scanStart :=
  h.of_radio (changes_scanStart s) (Radio.follows_of_tx s.trigger_tx)

theorem Queues.scanHalt (h : Queues s) : Queues s.scanHalt := by
  refine h.of_radio (changes_scanHalt s) ?_
  unfold State.scanHalt
  dsimp only
  split <;> exact Radio.follows_of_tx rfl

theorem Queues.exec (h : Queues s) (path : PathLaw s) (settings : SettingsLaw s) (port : Port s) {c : Instr}
    (next : exec c s = .next t) : Queues t := by
  have asked : ∀ {owner}, work c = .request owner →
      (∀ u, Queues u → PathLaw u → SettingsLaw u → Queues (owner u)) → Queues t := by
    intro owner hc done
    obtain ⟨-, rfl⟩ | ⟨-, rfl⟩ := exec_request next hc
    · exact h
    · exact done _ (h.of_changes (changes_setPhase s .spent)) path settings
  cases c with
  | neighbourEnrol index nodeId hint cap => exact asked rfl fun _ h _ _ => h.enrol index nodeId hint cap
  | neighbourRetire index => exact asked rfl fun _ h _ _ => h.retireRequest index
  | neighbourConfirm index => exact asked rfl fun _ h path settings => h.confirm path settings index
  | neighbourQuery index clear => exact asked rfl fun _ h _ _ => h.query index clear
  | frameSend dest cls hops payload => exact asked rfl fun _ h path settings => h.frameSend path settings dest cls hops payload
  | scheduleStop => exact asked rfl fun _ h _ _ => h.scheduleStop
  | scanStart => exact asked rfl fun _ h _ _ => h.scanStart
  | scanHalt => exact asked rfl fun _ h _ _ => h.scanHalt
  | restartWarm => exact asked rfl fun _ h _ _ => h.restartRequest 1
  | restartCold => exact asked rfl fun _ h _ _ => h.restartRequest 0
  | restartRange form => exact asked rfl fun _ h _ _ => h.restartRequest form
  | readCompletion => exact exec_event next rfl ▸ h.completeRead port
  | powerOn => exact exec_event next rfl ▸ h.beginStart .power
  | reset => exact exec_event next rfl ▸ h.resetAssert
  | coldStartCompletion => exact exec_event next rfl ▸ h.completeStart
  | supplyLowAssertion => exact exec_event next rfl ▸ h.supplyAssert
  | slotStart => exact exec_event next rfl ▸ h.slotStart
  | bodyStart => exact exec_event next rfl ▸ h.bodyStart
  | burstEnd => exact exec_event next rfl ▸ h.endBurst
  | beaconEnd => exact exec_event next rfl ▸ h.endAir .beacon
  | acksetEnd => exact exec_event next rfl ▸ h.endAir .ackset
  | tailStart => exact exec_event next rfl ▸ h.tailStart
  | rxFrameArrival bytes code => exact exec_event next rfl ▸ h.travels path settings (travels_rxArrival s bytes code)
  | acksetArrival bytes code => exact exec_event next rfl ▸ h.txArrival bytes code
  | slotEnd => exact exec_event next rfl ▸ h.slotEnd path settings
  | superframeBoundary => exact exec_event next rfl ▸ h.boundary path settings
  | _ => exact h.of_changes (changes_exec next) rfl rfl rfl rfl rfl

end

/-- What a command gives from every state with the premises, a step gives, the queue of commands being no part of them. -/
theorem step_gives {P Q : State → Prop} (idle : ∀ s, P s → Q s) (queue : ∀ s q, P s → P (s.withPending q))
    (command : ∀ c s t, P s → exec c s = .next t → Q t) {s t : State} (h : P s) (next : step s = .next t) : Q t := by
  unfold step at next
  split at next
  · injection next with next
    exact next ▸ idle s h
  · exact command _ _ t (queue s _ h) next

end Sys2Proof.Machine

namespace Sys2Proof.Proofs

open Sys2Proof Sys2Proof.Machine

/-- Settles O56: a frame is taken from one place and stands in the next or is released within one command, a LIVE entry names a
neighbour that is UP, and the queues of neighbours that are lost at a boundary are empty already. -/
theorem stepsKeepTheQueues : Obligations.StepsKeepTheQueues := by
  intro s t path settings port stores next
  obtain ⟨stored, silent, flight⟩ := storeLaw_iff.1 stores
  have kept : Queues t := step_gives (P := fun s => Queues s ∧ PathLaw s ∧ SettingsLaw s ∧ Port s)
    (fun _ h => h.1) (fun _ _ ⟨⟨stored, silent, flight⟩, path, settings, port⟩ =>
      ⟨⟨stored.of_store rfl rfl rfl, silent, flight⟩, path, settings, port.writing, port.staged, port.starting, port.reading⟩)
    (fun _ _ _ ⟨h, path, settings, port⟩ next => h.exec path settings port next)
    ⟨⟨stored, silent, flight⟩, path, settings, portLaw_iff.1 port⟩ next
  exact storeLaw_iff.2 ⟨kept.stored, kept.silent, kept.flight⟩

end Sys2Proof.Proofs
end

section
/-! The neighbour table under every command: VACANT records at cold values, heard records with sector, epoch and accumulator, and node
ids in range, distinct and not the part's own (R16, R17, R30, R168). -/

namespace Sys2Proof.Machine

open Sys2Proof

/-! ### One record and the table -/

/-- The law of one record: a VACANT one is at its cold values, a heard one is placed, an enrolled one has a node id in range. -/
structure Nbr.Proper (r : Nbr) : Prop where
  vacant : r.state = .vacant → r = Nbr.vacant
  placed : r.state.heard = true → r.Placed
  named : r.state ≠ .vacant → ∃ id, r.nodeId = some id ∧ 1 ≤ id ∧ id ≤ 4094

/-- The law of the neighbour table. -/
structure Enrolment (s : State) : Prop where
  proper : ∀ n, (s.nbr n).Proper
  distinct : ∀ n m, m ≠ n → (s.nbr n).state ≠ .vacant → (s.nbr m).nodeId ≠ (s.nbr n).nodeId
  foreign : ∀ n i, (s.nbr n).state ≠ .vacant → s.part.identity = some i → (s.nbr n).nodeId ≠ some i.nodeId

theorem neighbourLaw_iff {s : State} : NeighbourLaw s ↔ Enrolment s := by
  constructor
  · intro h
    refine ⟨fun n => ⟨(h n).1, (h n).2.1, fun used => ?_⟩, fun n m other used => ?_, fun n i used own => ?_⟩ <;>
      obtain ⟨id, name, low, high, distinct, foreign⟩ := (h n).2.2 used
    · exact ⟨id, name, low, high⟩
    · rw [name]
      exact distinct m other
    · rw [name]
      exact fun e => foreign i own (Option.some.inj e).symm
  · intro h n
    refine ⟨(h.proper n).vacant, (h.proper n).placed, fun used => ?_⟩
    obtain ⟨id, name, low, high⟩ := (h.proper n).named used
    refine ⟨id, name, low, high, fun m other => ?_, fun i own e => ?_⟩
    · rw [← name]
      exact h.distinct n m other used
    · exact h.foreign n i used own (by rw [name, e])

theorem Nbr.proper_vacant : Nbr.vacant.Proper := ⟨fun _ => rfl, (fun e => nomatch e), fun used => absurd rfl used⟩

theorem Nbr.Revised.proper {a b : Nbr} (h : a.Revised b) (k : a.Proper) : b.Proper where
  vacant e := absurd (h.state.symm.trans e) h.enrolled
  placed e := h.placed (k.placed (h.state ▸ e))
  named _ := h.nodeId ▸ k.named h.enrolled

/-- An enrolled record changed in what the law leaves out. -/
theorem Nbr.Proper.touch {a b : Nbr} (k : a.Proper) (used : a.state ≠ .vacant) (state : b.state = a.state) (nodeId : b.nodeId = a.nodeId)
    (placed : a.Placed → b.Placed) : b.Proper where
  vacant e := absurd (state.symm.trans e) used
  placed e := placed (k.placed (state ▸ e))
  named _ := nodeId ▸ k.named used

section
variable {s t : State}

theorem Enrolment.of_changes {ps : List Piece} (h : Enrolment s) (k : Changes ps s t) (nbrs : ps.contains .nbrs = false := by rfl)
    (identity : ps.contains .identity = false := by rfl) : Enrolment t := by
  have same := State.nbr_eq (k .nbrs nbrs)
  have own : t.part.identity = s.part.identity := k .identity identity
  refine ⟨fun n => same n ▸ h.proper n, fun n m other used => ?_, fun n i used e => ?_⟩
  · rw [same] at used ⊢
    rw [same]
    exact h.distinct n m other used
  · rw [same] at used ⊢
    exact h.foreign n i used (own ▸ e)

/-- The law is kept where no record gets another node id and none is enrolled. -/
theorem Enrolment.of_ids (h : Enrolment s) (proper : ∀ n, (t.nbr n).Proper) (identity : t.part.identity = s.part.identity)
    (ids : ∀ n, (t.nbr n).nodeId = (s.nbr n).nodeId) (used : ∀ n, (t.nbr n).state ≠ .vacant → (s.nbr n).state ≠ .vacant) :
    Enrolment t := by
  refine ⟨proper, fun n m other u => ?_, fun n i u own => ?_⟩
  · rw [ids, ids]
    exact h.distinct n m other (used n u)
  · rw [ids]
    exact h.foreign n i (used n u) (identity ▸ own)

theorem Enrolment.setNbr (h : Enrolment s) (n : NbrIdx) {r : Nbr} (proper : r.Proper) (nodeId : r.nodeId = (s.nbr n).nodeId)
    (used : r.state ≠ .vacant → (s.nbr n).state ≠ .vacant) : Enrolment (s.setNbr n r) := by
  refine h.of_ids (fun m => ?_) rfl (fun m => ?_) fun m => ?_ <;> rw [State.nbr_setNbr] <;> split
  · exact proper
  · exact h.proper m
  · next e => rw [e, nodeId]
  · rfl
  · next e => exact e ▸ used
  · exact id

theorem Enrolment.revise (h : Enrolment s) (n : NbrIdx) {r : Nbr} (revised : (s.nbr n).Revised r) : Enrolment (s.setNbr n r) :=
  h.setNbr n (revised.proper (h.proper n)) revised.nodeId fun _ => revised.enrolled

/-! ### Moves, traffic and settling -/

theorem Enrolment.appendQueue (h : Enrolment s) {m : NbrIdx} (used : (s.nbr m).state ≠ .vacant) (j : Handle) :
    Enrolment (s.appendQueue m j) := by
  have stored := h.setNbr m (r := { s.nbr m with txSeq := (s.nbr m).txSeq + 1 }) ((h.proper m).touch used rfl rfl id) rfl fun _ => used
  exact ⟨stored.proper, stored.distinct, stored.foreign⟩

/-- The laws of the neighbour table and of the path table. -/
structure Known (s : State) : Prop where
  path : PathLaw s
  enrolment : Enrolment s

theorem Known.of_changes {ps : List Piece} (h : Known s) (k : Changes ps s t) (nbrs : ps.contains .nbrs = false := by rfl)
    (entries : ps.contains .entries = false := by rfl) (identity : ps.contains .identity = false := by rfl) : Known t :=
  ⟨h.path.of_changes k nbrs entries, h.enrolment.of_changes k nbrs identity⟩

theorem Known.frameLookup (h : Known s) (q : Key) : Known (s.frameLookup q).2 :=
  ⟨h.path.frameLookup q, h.enrolment.of_changes (changes_frameLookup s q)⟩

theorem Known.appendQueue (h : Known s) {i : EntryIdx} {r : Route} {m : NbrIdx} (entry : s.entry i = some r)
    (action : r.action = .forward m) (j : Handle) : Known (s.appendQueue m j) :=
  ⟨h.path.appendQueue m j, h.enrolment.appendQueue ((h.path i r entry).1 m action).1 j⟩

theorem Known.rescueOne {acc : State × Rescue} (h : Known acc.1) (j : Handle) : Known (rescueOne acc j).1 := by
  unfold Machine.rescueOne
  split
  · exact h
  · next f _ =>
    have looked := h.frameLookup { dest := f.dest, cls := f.cls, ing := f.ing }
    dsimp only
    split
    · exact looked.of_changes (changes_discard _ _ _)
    · next i r won =>
      obtain ⟨entry, -⟩ := State.frameLookup_winner won
      split
      · exact looked.of_changes (changes_discard _ _ _)
      · exact looked.of_changes (changes_appendDelivery _ _ _)
      · next m action =>
        split
        · exact looked.of_changes (changes_discard _ _ _)
        · split
          · exact looked.appendQueue entry action j
          · exact looked.of_changes (changes_discard _ _ _)

theorem Known.rescue (h : Known s) (n : NbrIdx) : Known (s.rescue n).1 :=
  foldl_keeps (P := fun acc => Known acc.1) Machine.rescueOne (fun _ f h => h.rescueOne f) (s.queue n)
    (a := (s.setQueue n [], ⟨0, 0⟩)) (h.of_changes (changes_setQueue s n []))

theorem Known.changeState (h : Known s) (n : NbrIdx) {new : LinkState} (cause : LinkCause) (used : (s.nbr n).state ≠ .vacant)
    (target : new = .lost ∨ new.heard = true) (placed : (s.nbr n).state.heard = true ∨ new = .lost ∨ (s.nbr n).Placed) :
    Known (s.changeState n new cause) := by
  have notVacant := LinkState.ne_vacant_of_target target
  have proper : Nbr.Proper { (s.nbr n).clearRuns with state := new } := by
    refine ⟨fun e => absurd e notVacant, fun e => ?_, fun _ => (h.enrolment.proper n).named used⟩
    have heard : new.heard = true := e
    obtain was | rfl | there := placed
    · exact (h.enrolment.proper n).placed was
    · cases heard
    · exact there
  have moved : Known ((s.modNbr n fun r => { r.clearRuns with state := new }).parkFor n (s.nbr n).state new) :=
    ⟨h.path.parkFor notVacant, (h.enrolment.setNbr n proper rfl fun _ => used).of_changes (changes_parkFor _ n _ new)⟩
  unfold State.changeState State.afterChange
  dsimp only
  split
  · exact ((moved.rescue n).of_changes (changes_lossTrigger _)).of_changes (changes_post _ _ _ _)
  · exact moved.of_changes (changes_post _ _ _ _)

theorem Nbr.proper_grow {r : Nbr} (h : r.Proper) : r.grow.Proper := by
  unfold Nbr.grow
  split
  · next seeking => exact h.touch (by rw [seeking]; decide) rfl rfl id
  · exact h

theorem Nbr.grow_nodeId (r : Nbr) : r.grow.nodeId = r.nodeId := by
  unfold Nbr.grow
  split <;> rfl

theorem Known.move (h : Known s) (k : Move s t) : Known t := by
  cases k with
  | revise n revised => exact ⟨h.path.setNbr n revised.state, h.enrolment.revise n revised⟩
  | change n new cause used target placed => exact h.changeState n cause used target placed
  | tell n cause => exact h.of_changes (changes_post s _ _ _)
  | grow =>
    have look : ∀ n, (s.mon.nbrs.each Nbr.grow).look n = (s.nbr n).grow := fun n => Tab.look_each Nbr.grow s.mon.nbrs n
    refine ⟨h.path.move .grow, h.enrolment.of_ids (fun n => ?_) rfl (fun n => ?_) fun n used => ?_⟩
    · exact (congrArg Nbr.Proper (look n)).mpr (Nbr.proper_grow (h.enrolment.proper n))
    · exact (congrArg Nbr.nodeId (look n)).trans (Nbr.grow_nodeId _)
    · exact fun e => used ((congrArg Nbr.state (look n)).trans ((Nbr.grow_state _).trans e))
  | measure b => exact h.of_changes (changes_measure s b)

theorem Known.traffic (h : Known s) (k : Traffic s t) : Known t := by
  cases k with
  | hear ctx _ => exact h.of_changes (changes_setRadio _ _)
  | failed => exact h.of_changes (ps := [.checkFail]) fun p hp => by cases p <;> cases hp <;> rfl
  | foreign => exact h.of_changes (ps := [.foreign]) fun p hp => by cases p <;> cases hp <;> rfl
  | revise n revised => exact ⟨h.path.setNbr n revised.state, h.enrolment.revise n revised⟩
  | look q => exact h.frameLookup q
  | drop why => exact h.of_changes (changes_countDiscard _ _)
  | deliver ing cls hops unrouted _ _ =>
    exact (h.of_changes (changes_allocate _ _ ing _ cls hops _)).of_changes (changes_appendDelivery _ _ unrouted)
  | @relay j _ _ _ ing dest cls hops payload _ _ _ _ entry _ action =>
    have made := h.of_changes (changes_allocate s j ing dest cls hops payload)
    exact made.appendQueue entry action j

theorem Known.moves (h : Known s) (run : Moves s t) : Known t := run_keeps (P := Known) (fun _ _ => Known.move) h run

theorem Known.travels (h : Known s) (run : Travels s t) : Known t := run_keeps (P := Known) (fun _ _ => Known.traffic) h run

/-- Counters of an enrolled neighbour. -/
theorem Known.modCounters (h : Known s) {n : NbrIdx} (used : (s.nbr n).state ≠ .vacant) (f : NbrCounters → NbrCounters) :
    Known (s.modCounters n f) :=
  ⟨h.path.setNbr n rfl, h.enrolment.setNbr n ((h.enrolment.proper n).touch used rfl rfl id) rfl fun _ => used⟩

theorem Known.settleOne (h : Known s) {n : NbrIdx} (used : (s.nbr n).state ≠ .vacant) (list : List Seq) (hq : Handle × Seq) :
    Known (settleOne n list s hq) ∧ ((settleOne n list s hq).nbr n).state ≠ .vacant := by
  have counted : ∀ (u : State) f, (u.nbr n).state ≠ .vacant → ((u.modCounters n f).nbr n).state ≠ .vacant := fun u f used => by
    unfold State.modCounters
    rw [State.nbr_modNbr_self]
    exact used
  have beside : ∀ {ps : List Piece} {u v : State}, (u.nbr n).state ≠ .vacant → Changes ps u v → ps.contains .nbrs = false →
      (v.nbr n).state ≠ .vacant := fun used k nbrs => by
    rw [State.nbr_eq (k .nbrs nbrs)]
    exact used
  unfold Machine.settleOne
  split
  · have left := (h.of_changes (changes_setQueue s n ((s.queue n).erase hq.1))).of_changes (changes_release _ hq.1)
    have used' := beside (beside used (changes_setQueue s n ((s.queue n).erase hq.1)) rfl) (changes_release _ hq.1) rfl
    exact ⟨left.modCounters used' _, counted _ _ used'⟩
  · have raised := h.modCounters used fun c => { c with retries := bump 65535 c.retries }
    have used' := counted s (fun c => { c with retries := bump 65535 c.retries }) used
    unfold State.retryFrame
    dsimp only
    split
    · exact ⟨raised, used'⟩
    · split
      · exact ⟨(raised.of_changes (changes_setQueue _ n _)).of_changes (changes_discard _ _ _),
          beside (beside used' (changes_setQueue _ n _) rfl) (changes_discard _ _ _) rfl⟩
      · exact ⟨raised.of_changes (changes_setFrame _ _ _), beside used' (changes_setFrame _ _ _) rfl⟩

theorem Known.settle (h : Known s) {n : NbrIdx} (used : (s.nbr n).state ≠ .vacant) (set : List (Handle × Seq)) (list : List Seq) :
    Known (s.settle n set list) := by
  obtain ⟨each, used⟩ := foldl_keeps (P := fun s => Known s ∧ (s.nbr n).state ≠ .vacant) (Machine.settleOne n list)
    (fun _ hq h => h.1.settleOne h.2 list hq) set ⟨h, used⟩
  exact each.modCounters used _

/-- A neighbour with an in-flight set is heard. -/
theorem StoreLaw.heard_of_flight (h : StoreLaw s) {ctx : TxCtx} {n : NbrIdx} {set : List (Handle × Seq)} (open_ : s.radio.tx = some ctx)
    (named : ctx.nbr = some n) (content : ctx.content = .frames set) : (s.nbr n).state.heard = true := by
  obtain ⟨-, -, -, -, -, silent, -, flight⟩ := h
  obtain ⟨m, named', head, low, -⟩ := flight ctx set open_ content
  obtain rfl : n = m := Option.some.inj (named.symm.trans named')
  by_contra deaf
  rw [silent n (by simpa using deaf), List.prefix_nil, List.map_eq_nil_iff] at head
  rw [head] at low
  cases low

theorem Known.slotEnd (h : Known s) (store : StoreLaw s) : Known s.slotEnd :=
  slotEnd_keeps (P := Known) (fun _ _ => Known.move) (fun _ _ h k => h.of_changes k)
    (fun _ d lines next h => h.of_changes (changes_post _ _ _ _)) (fun _ p h _ => h.of_changes (changes_progressTo _ p)) h
    fun _ _ set list open_ named content =>
      h.settle (LinkState.ne_vacant_of_heard (store.heard_of_flight open_ named content)) set list

theorem Known.boundary (h : Known s) : Known s.boundary :=
  boundary_keeps (P := Known) (fun _ p h _ => h.of_changes (changes_progressTo _ p)) (fun _ h => h.of_changes (changes_count _))
    (fun _ h => h.of_changes (changes_decideStaged _)) (fun _ h => h.moves (moves_ageSeeking _))
    (fun _ h => h.of_changes (changes_boundaryTrigger _)) h

/-! ### Requests and starts -/

theorem Enrolment.reply (h : Enrolment s) (k : Byte) (c : ResultCode) (b : ReplyBody) : Enrolment (s.reply k c b) :=
  h.of_changes (changes_reply s k c b)

/-- A node id that no enrolled record holds. -/
theorem State.nbrWithId_none {id : Nat} (h : s.nbrWithId id = none) (n : NbrIdx) (used : (s.nbr n).state ≠ .vacant) :
    (s.nbr n).nodeId ≠ some id := by
  have misses := Tab.lowest_eq_none.1 h n
  intro e
  have e : (s.mon.nbrs.look n).nodeId = some id := e
  have used : (s.mon.nbrs.look n).state ≠ .vacant := used
  simp [e, used] at misses

theorem Enrolment.enrol (h : Enrolment s) (index : Byte) (nodeId : Half) (hint cap : Byte) :
    Enrolment (s.enrol index nodeId hint cap) := by
  unfold State.enrol
  split
  · next n sec _ _ =>
    split
    · next legal =>
      split
      · next may =>
        simp only [State.mayEnrol, Bool.and_eq_true, beq_iff_eq, Option.isNone_iff_eq_none] at may
        obtain ⟨⟨identity, vacant⟩, unused⟩ := may
        simp only [legalNodeId, Bool.and_eq_true, decide_eq_true_eq] at legal
        have look := s.nbr_setNbr n (r := Nbr.enrolled nodeId.toNat sec (capTaken cap).1)
        have fresh : ∀ m, (s.nbr m).nodeId ≠ some nodeId.toNat := fun m e => by
          by_cases used : (s.nbr m).state = .vacant
          · rw [(h.proper m).vacant used] at e
            cases e
          · exact State.nbrWithId_none unused m used e
        have stored : Enrolment (s.setNbr n (Nbr.enrolled nodeId.toNat sec (capTaken cap).1)) := by
          refine ⟨fun m => ?_, fun k m other used => ?_, fun m i used own => ?_⟩
          · rw [look]
            split
            · exact ⟨(fun e => nomatch e), (fun e => nomatch e), fun _ => ⟨_, rfl, legal⟩⟩
            · exact h.proper m
          · rw [look] at used ⊢
            rw [look]
            split
            · next e =>
              subst e
              rw [if_neg fun e => other e.symm]
              exact fun e => fresh k e.symm
            · split
              · exact fresh m
              · next keep =>
                rw [if_neg keep] at used
                exact h.distinct k m other used
          · have own : s.part.identity = some i := own
            rw [look] at used ⊢
            split
            · rw [own] at identity
              have differs : i.nodeId ≠ nodeId.toNat := by simpa using identity
              exact fun e => differs (Option.some.inj e).symm
            · next keep =>
              rw [if_neg keep] at used
              exact h.foreign m i used own
        exact ((stored.of_changes (changes_setQueue _ n [])).of_changes (changes_post _ (.link n) _ none)).reply _ _ _
      · exact h.reply _ _ _
    · exact h.reply _ _ _
  · exact h.reply _ _ _

theorem Enrolment.vacate (h : Enrolment s) (n : NbrIdx) : Enrolment (s.setNbr n Nbr.vacant) := by
  have look := s.nbr_setNbr n (r := Nbr.vacant)
  refine ⟨fun m => ?_, fun k m other used => ?_, fun m i used own => ?_⟩
  · rw [look]
    split
    · exact Nbr.proper_vacant
    · exact h.proper m
  · rw [look] at used ⊢
    rw [look]
    split at used
    · exact absurd rfl used
    · next keep =>
      rw [if_neg keep]
      split
      · obtain ⟨id, name, -⟩ := (h.proper k).named used
        rw [name]
        exact fun e => nomatch e
      · exact h.distinct k m other used
  · have own : s.part.identity = some i := own
    rw [look] at used ⊢
    split at used
    · exact absurd rfl used
    · next keep =>
      rw [if_neg keep]
      exact h.foreign m i used own

theorem Enrolment.retireRequest (h : Enrolment s) (index : Byte) : Enrolment (s.retireRequest index) := by
  unfold State.retireRequest
  split
  · exact h.reply _ _ _
  · next n _ =>
    split
    · exact h.reply _ _ _
    · have cleared := (h.of_changes (changes_freeEntries s (hopsTo n))).of_changes (changes_retiring s n)
      have retired : Enrolment (s.retire n) := (cleared.vacate n).of_changes (changes_post _ (.link n) _ none)
      exact retired.reply _ _ _

theorem Known.confirm (h : Known s) (index : Byte) : Enrolment (s.confirm index) := by
  unfold State.confirm
  split
  · exact h.enrolment.reply _ _ _
  · split
    · next held => exact (h.moves (moves_confirm held)).enrolment.reply _ _ _
    · exact h.enrolment.reply _ _ _

theorem Enrolment.query (h : Enrolment s) (index clear : Byte) : Enrolment (s.query index clear) := by
  unfold State.query
  split
  · next n c _ _ =>
    cases c
    · exact h.reply _ _ _
    · have proper : Nbr.Proper { s.nbr n with counters := NbrCounters.zero } := by
        by_cases used : (s.nbr n).state = .vacant
        · rw [(h.proper n).vacant used]
          exact Nbr.proper_vacant
        · exact (h.proper n).touch used rfl rfl id
      have cleared : Enrolment (s.modNbr n fun r => { r with counters := NbrCounters.zero }) := h.setNbr n proper rfl id
      exact cleared.reply _ _ _
  · exact h.reply _ _ _

theorem Known.frameSend (h : Known s) (dest : Half) (cls hops : Byte) (payload : List Byte) :
    Enrolment (s.frameSend dest cls hops payload) := by
  obtain ⟨t, reply, run, e⟩ := travels_frameSend s dest cls hops payload
  rw [e]
  have sent := (h.travels run).enrolment
  exact ⟨sent.proper, sent.distinct, sent.foreign⟩

theorem Enrolment.identifyRequest (h : Enrolment s) (nodeId : Half) (epoch : Byte) : Enrolment (s.identifyRequest nodeId epoch) := by
  unfold State.identifyRequest
  split
  · split
    · next may =>
      refine ⟨h.proper, h.distinct, fun n i used own => ?_⟩
      obtain rfl := Option.some.inj own
      exact State.nbrWithId_none may.2 n used
    · exact h.reply _ _ _
  · exact h.reply _ _ _

theorem Nbr.proper_warm {r : Nbr} (h : r.Proper) : r.warm.Proper := by
  unfold Nbr.warm
  split
  · exact Nbr.proper_vacant
  · next used => exact ⟨(fun e => nomatch e), (fun e => nomatch e), fun _ => h.named used⟩

theorem Nbr.warm_nodeId {r : Nbr} (h : r.Proper) : r.warm.nodeId = r.nodeId := by
  unfold Nbr.warm
  split
  · next vacant => rw [h.vacant vacant]
  · rfl

theorem Enrolment.restartRequest (h : Enrolment s) (form : Byte) : Enrolment (s.restartRequest form) := by
  have look : ∀ n, (s.mon.nbrs.each Nbr.warm).look n = (s.nbr n).warm := fun n => Tab.look_each Nbr.warm s.mon.nbrs n
  unfold State.restartRequest
  split
  · exact h.of_changes (changes_beginStart s _)
  · refine h.of_ids (fun n => ?_) rfl (fun n => ?_) fun n used vacant => used ?_
    · exact (congrArg Nbr.Proper (look n)).mpr (Nbr.proper_warm (h.proper n))
    · exact (congrArg Nbr.nodeId (look n)).trans (Nbr.warm_nodeId (h.proper n))
    · exact (congrArg Nbr.state (look n)).trans (by rw [Nbr.warm_state, if_pos vacant])
  · exact h.reply _ _ _

theorem enrolment_cold (cause : StartCause) (level : Bool) (pending : List Instr) : Enrolment (State.cold cause level pending) := by
  have look : ∀ n, (State.cold cause level pending).nbr n = Nbr.vacant := fun n => Tab.look_all Nbr.vacant n
  refine ⟨fun n => ?_, fun n _ _ used => absurd (by rw [look]; rfl) used, fun n _ used _ => absurd (by rw [look]; rfl) used⟩
  rw [look]
  exact Nbr.proper_vacant

theorem Enrolment.completeStart (h : Enrolment s) : Enrolment s.completeStart := by
  unfold State.completeStart
  split
  · exact h
  · exact enrolment_cold _ _ _

theorem Known.exec (h : Known s) (store : StoreLaw s) {c : Instr} (next : exec c s = .next t) : Enrolment t := by
  have asked : ∀ {owner}, work c = .request owner → (∀ u, Known u → Enrolment (owner u)) → Enrolment t := by
    intro owner hc done
    obtain ⟨-, rfl⟩ | ⟨-, rfl⟩ := exec_request next hc
    · exact h.enrolment
    · exact done _ (h.of_changes (changes_setPhase s .spent))
  cases c with
  | neighbourEnrol index nodeId hint cap => exact asked rfl fun _ h => h.enrolment.enrol index nodeId hint cap
  | neighbourRetire index => exact asked rfl fun _ h => h.enrolment.retireRequest index
  | neighbourConfirm index => exact asked rfl fun _ h => h.confirm index
  | neighbourQuery index clear => exact asked rfl fun _ h => h.enrolment.query index clear
  | frameSend dest cls hops payload => exact asked rfl fun _ h => h.frameSend dest cls hops payload
  | identify nodeId epoch => exact asked rfl fun _ h => h.enrolment.identifyRequest nodeId epoch
  | restartWarm => exact asked rfl fun _ h => h.enrolment.restartRequest 1
  | restartCold => exact asked rfl fun _ h => h.enrolment.restartRequest 0
  | restartRange form => exact asked rfl fun _ h => h.enrolment.restartRequest form
  | coldStartCompletion => exact exec_event next rfl ▸ h.enrolment.completeStart
  | rxFrameArrival bytes code => exact exec_event next rfl ▸ (h.travels (travels_rxArrival s bytes code)).enrolment
  | slotEnd => exact exec_event next rfl ▸ (h.slotEnd store).enrolment
  | superframeBoundary => exact exec_event next rfl ▸ h.boundary.enrolment
  | _ => exact h.enrolment.of_changes (changes_exec next) rfl rfl

end

end Sys2Proof.Machine

namespace Sys2Proof.Proofs

open Sys2Proof Sys2Proof.Machine

/-- Settles O57: a record is revised only while enrolled, becomes heard only with sector, epoch and accumulator, and gets a node id
only by an enrolment that found the id unused. -/
theorem stepsKeepTheNeighbours : Obligations.StepsKeepTheNeighbours := by
  intro s t path store neighbours next
  exact neighbourLaw_iff.2 (step_gives (P := fun s => Known s ∧ StoreLaw s) (fun _ h => h.1.enrolment)
    (fun _ _ h => ⟨⟨h.1.path, h.1.enrolment.proper, h.1.enrolment.distinct, h.1.enrolment.foreign⟩, h.2⟩)
    (fun _ _ _ h next => h.1.exec h.2 next) ⟨⟨path, neighbourLaw_iff.1 neighbours⟩, store⟩ next)

end Sys2Proof.Proofs
end

section
/-! Holds, maps and corrections under every command: a hold follows what sets it, RUNNING implies a valid active map, and only slot 31
is corrected (R115 to R121, R130, R132, R167). -/

namespace Sys2Proof.Machine

open Sys2Proof

section
variable {s t : State}

/-! ### Holds -/

/-- The law of the holds, field by field (R119, R130, R167). -/
structure Held (s : State) : Prop where
  identity : s.sched.holds.identity = s.part.identity.isNone
  supply : s.part.starting = none → s.sched.holds.supply = s.part.supplyLow
  unsynced : s.sched.sync = none → s.sched.pendingD = none ∧ s.sched.holds.drift = false
  legal : ∀ i, s.part.identity = some i → 1 ≤ i.nodeId ∧ i.nodeId ≤ 4094

theorem holdLaw_iff : HoldLaw s ↔ Held s :=
  ⟨fun ⟨identity, supply, unsynced, legal⟩ => ⟨identity, supply, unsynced, legal⟩,
    fun h => ⟨h.identity, h.supply, h.unsynced, h.legal⟩⟩

theorem Held.of_changes {ps : List Piece} (h : Held s) (k : Changes ps s t) (holds : ps.contains .holds = false := by rfl)
    (identity : ps.contains .identity = false := by rfl) (starting : ps.contains .starting = false := by rfl)
    (level : ps.contains .supplyLow = false := by rfl) (sync : ps.contains .sync = false := by rfl)
    (pendingD : ps.contains .pendingD = false := by rfl) : Held t := by
  have holds : t.sched.holds = s.sched.holds := k .holds holds
  have identity : t.part.identity = s.part.identity := k .identity identity
  have starting : t.part.starting = s.part.starting := k .starting starting
  have level : t.part.supplyLow = s.part.supplyLow := k .supplyLow level
  have sync : t.sched.sync = s.sched.sync := k .sync sync
  have pendingD : t.sched.pendingD = s.sched.pendingD := k .pendingD pendingD
  obtain ⟨a, b, c, d⟩ := h
  refine ⟨?_, ?_, ?_, ?_⟩
  · rwa [holds, identity]
  · rwa [starting, holds, level]
  · rwa [sync, pendingD, holds]
  · rwa [identity]

/-- Judging DRIFT moves nothing but that hold, and so the sync neighbour stays. -/
theorem Held.judgeDrift (h : Held s) (synced : s.sched.sync ≠ none) (d : Int) : Held (s.judgeDrift d) := by
  have withDrift : ∀ f, Held (s.setSched (s.sched.withDrift f)) :=
    fun f => ⟨h.identity, h.supply, fun e => absurd e synced, h.legal⟩
  unfold State.judgeDrift
  split
  · exact (withDrift true).of_changes (changes_post _ _ _ _)
  · split
    · exact (withDrift false).of_changes (changes_post _ _ _ _)
    · exact h

theorem Held.measure (h : Held s) (b : HeardBeacon) : Held (s.measure b) := by
  unfold State.measure
  split
  · exact h
  · next k sync =>
    have synced : s.sched.sync ≠ none := by simp [sync]
    split
    · have measured : Held (s.setSched { s.sched with pendingD := some (alignmentD s.sched.slotLen b),
                                                      lastD := some (alignmentD s.sched.slotLen b) }) :=
        ⟨h.identity, h.supply, fun e => absurd e synced, h.legal⟩
      exact measured.judgeDrift synced _
    · exact h

theorem Held.move (h : Held s) (k : Move s t) : Held t := by
  cases k with
  | revise n _ => exact h.of_changes (changes_setNbr s n _)
  | change n new cause _ _ _ => exact h.of_changes (changes_changeState s n new cause)
  | tell n cause => exact h.of_changes (changes_post s _ _ _)
  | grow => exact h.of_changes (ps := [.nbrs]) fun p hp => by cases p <;> cases hp <;> rfl
  | measure b => exact h.measure b

theorem Held.setSync (h : Held s) (k : Option NbrIdx) : Held (s.setSync k) := by
  have cleared : Held (s.setSched { s.sched.withDrift false with sync := k, pendingD := none, lastD := none }) :=
    ⟨h.identity, h.supply, fun _ => ⟨rfl, rfl⟩, h.legal⟩
  unfold State.setSync
  dsimp only
  split
  · exact cleared.of_changes (changes_post _ _ _ _)
  · exact cleared

theorem Held.timingSet (h : Held s) (index : Byte) : Held (s.timingSet index) := by
  unfold State.timingSet
  split
  · exact h.of_changes (changes_reply s _ _ _)
  · exact (h.setSync none).of_changes (changes_reply _ _ _ _)
  · split
    · exact h.of_changes (changes_reply s _ _ _)
    · exact (h.setSync _).of_changes (changes_reply _ _ _ _)

theorem Held.retiring (h : Held s) (n : NbrIdx) : Held (s.retiring n) := by
  have quiet := ((h.of_changes (changes_freeEntries s (hopsTo n))).of_changes (changes_discardQueue _ n)).of_changes
    (changes_setRadio _ ((s.freeEntries (hopsTo n)).radio.retire n))
  unfold State.retiring
  dsimp only
  split
  · exact quiet.setSync none
  · exact quiet

theorem Held.retireRequest (h : Held s) (index : Byte) : Held (s.retireRequest index) := by
  unfold State.retireRequest
  split
  · exact h.of_changes (changes_reply s _ _ _)
  · next n _ =>
    split
    · exact h.of_changes (changes_reply s _ _ _)
    · have vacated : Held (s.retire n) :=
        ((h.retiring n).of_changes (changes_setNbr _ n Nbr.vacant)).of_changes (changes_post _ _ _ _)
      exact vacated.of_changes (changes_reply _ _ _ _)

theorem Held.identifyRequest (h : Held s) (nodeId : Half) (epoch : Byte) : Held (s.identifyRequest nodeId epoch) := by
  unfold State.identifyRequest
  split
  · next legal =>
    split
    · simp only [legalNodeId, Bool.and_eq_true, decide_eq_true_eq] at legal
      exact ⟨rfl, h.supply, h.unsynced, fun i e => Option.some.inj e ▸ legal⟩
    · exact h.of_changes (changes_reply s _ _ _)
  · exact h.of_changes (changes_reply s _ _ _)

/-- Dropping the pending measurement breaks nothing. -/
theorem Held.dropMeasurement (h : Held s) (holds : t.sched.holds = s.sched.holds) (part : t.part = s.part)
    (sync : t.sched.sync = s.sched.sync) (pendingD : t.sched.pendingD = none ∨ t.sched.pendingD = s.sched.pendingD) : Held t := by
  obtain ⟨a, b, c, d⟩ := h
  refine ⟨?_, ?_, fun e => ?_, ?_⟩
  · rwa [holds, part]
  · rwa [holds, part]
  · obtain ⟨unmeasured, steady⟩ := c (sync.symm.trans e)
    exact ⟨pendingD.elim id fun same => same.trans unmeasured, (congrArg Holds.drift holds).trans steady⟩
  · rwa [part]

theorem Held.scheduleStart (h : Held s) : Held s.scheduleStart := by
  unfold State.scheduleStart
  split
  · exact h.of_changes (changes_reply s _ _ _)
  · dsimp only
    split
    · exact h.dropMeasurement rfl rfl rfl (.inl rfl)
    · exact h.of_changes (changes_reply s _ _ _)

theorem Held.scheduleStop (h : Held s) : Held s.scheduleStop := by
  unfold State.scheduleStop
  dsimp only
  split
  · exact h.dropMeasurement rfl rfl rfl (.inl rfl)
  · exact h.of_changes (changes_reply s _ _ _)

theorem Held.slotStart (h : Held s) : Held s.slotStart := by
  unfold State.slotStart
  split
  · next i _ =>
    have started : Held (s.setSched (s.sched.startSlot i)) := by
      refine h.dropMeasurement rfl rfl rfl ?_
      by_cases last : i = 31
      · exact .inl (if_pos last)
      · exact .inr (if_neg last)
    exact started.of_changes (changes_openOwner _ i _)
  · exact h

theorem Held.beginStart (h : Held s) (cause : StartCause) : Held (s.beginStart cause) :=
  ⟨h.identity, (fun e => nomatch e), h.unsynced, h.legal⟩

theorem Held.restartRequest (h : Held s) (form : Byte) : Held (s.restartRequest form) := by
  unfold State.restartRequest
  split
  · exact h.beginStart _
  · exact ⟨h.identity, fun _ => rfl, fun _ => ⟨rfl, rfl⟩, h.legal⟩
  · exact h.of_changes (changes_reply s _ _ _)

theorem Held.resetAssert (h : Held s) : Held s.resetAssert := by
  have low : Held (s.setPart { s.part with resetLow := true }) := ⟨h.identity, h.supply, h.unsynced, h.legal⟩
  unfold State.resetAssert
  dsimp only
  split
  · exact low
  · exact low.beginStart _

theorem held_cold (cause : StartCause) (level : Bool) (pending : List Instr) : Held (State.cold cause level pending) :=
  ⟨rfl, fun _ => rfl, fun _ => ⟨rfl, rfl⟩, (fun _ e => nomatch e)⟩

theorem Held.completeStart (h : Held s) : Held s.completeStart := by
  unfold State.completeStart
  split
  · exact h
  · exact held_cold _ _ _

/-- During a start only the level of the pin is kept, and the hold is formed anew when the start completes. -/
theorem Held.supplyAssert (h : Held s) : Held s.supplyAssert := by
  unfold State.supplyAssert
  split
  · next starting => exact ⟨h.identity, fun e => absurd (e ▸ starting) (by decide), h.unsynced, h.legal⟩
  · exact ⟨h.identity, fun _ => rfl, h.unsynced, h.legal⟩

theorem Held.supplyRelease (h : Held s) : Held s.supplyRelease := by
  unfold State.supplyRelease
  split
  · next starting => exact ⟨h.identity, fun e => absurd (e ▸ starting) (by decide), h.unsynced, h.legal⟩
  · exact ⟨h.identity, fun _ => rfl, h.unsynced, h.legal⟩

theorem Held.slotEnd (h : Held s) : Held s.slotEnd :=
  slotEnd_keeps (P := Held) (fun _ _ => Held.move) (fun _ _ h k => h.of_changes k)
    (fun _ d lines next h => h.of_changes (changes_post _ _ _ _)) (fun _ p h _ => h.of_changes (changes_progressTo _ p)) h
    fun _ n set list _ _ _ => h.of_changes (changes_settle s n set list)

theorem Held.boundary (h : Held s) : Held s.boundary :=
  boundary_keeps (P := Held) (fun _ p h _ => h.of_changes (changes_progressTo _ p)) (fun _ h => h.of_changes (changes_count _))
    (fun _ h => h.of_changes (changes_decideStaged _))
    (fun _ h => run_keeps (P := Held) (fun _ _ => Held.move) h (moves_ageSeeking _))
    (fun _ h => h.of_changes (changes_boundaryTrigger _)) h

theorem Held.exec (h : Held s) {c : Instr} (next : exec c s = .next t) : Held t := by
  have asked : ∀ {owner}, work c = .request owner → (∀ u, Held u → Held (owner u)) → Held t :=
    fun hc done => request_keeps next hc (fun h => h.of_changes (changes_setPhase s .spent)) done h
  cases c with
  | neighbourRetire index => exact asked rfl fun _ h => h.retireRequest index
  | scheduleStart => exact asked rfl fun _ h => h.scheduleStart
  | scheduleStop => exact asked rfl fun _ h => h.scheduleStop
  | timingSet index => exact asked rfl fun _ h => h.timingSet index
  | identify nodeId epoch => exact asked rfl fun _ h => h.identifyRequest nodeId epoch
  | restartWarm => exact asked rfl fun _ h => h.restartRequest 1
  | restartCold => exact asked rfl fun _ h => h.restartRequest 0
  | restartRange form => exact asked rfl fun _ h => h.restartRequest form
  | powerOn => exact exec_event next rfl ▸ h.beginStart .power
  | reset => exact exec_event next rfl ▸ h.resetAssert
  | coldStartCompletion => exact exec_event next rfl ▸ h.completeStart
  | supplyLowAssertion => exact exec_event next rfl ▸ h.supplyAssert
  | supplyLowDeassertion => exact exec_event next rfl ▸ h.supplyRelease
  | slotStart => exact exec_event next rfl ▸ h.slotStart
  | slotEnd => exact exec_event next rfl ▸ h.slotEnd
  | superframeBoundary => exact exec_event next rfl ▸ h.boundary
  | _ => exact h.of_changes (changes_exec next) rfl rfl rfl rfl rfl rfl

/-! ### Maps -/

/-- The law of the maps, field by field (R116, R120, R121). -/
structure Mapped (s : State) : Prop where
  legal : ∀ m i, (slotKindOf ((s.sched.maps.look m).codes.look i)).isSome = true
  valid : s.sched.isRunning = true → (s.sched.maps.look s.sched.active).sum = 65535
  low : 250 ≤ s.sched.slotLen
  high : s.sched.slotLen ≤ 4000
  step : s.sched.slotLen % 50 = 0

theorem mapLaw_iff : MapLaw s ↔ Mapped s :=
  ⟨fun ⟨legal, valid, low, high, step⟩ => ⟨legal, valid, low, high, step⟩, fun h => ⟨h.legal, h.valid, h.low, h.high, h.step⟩⟩

/-- The law stands while maps, active map and slot length stay and the scheduler is not started. -/
theorem Mapped.of_running {ps : List Piece} (h : Mapped s) (k : Changes ps s t)
    (running : t.sched.isRunning = true → s.sched.isRunning = true) (maps : ps.contains .maps = false := by rfl)
    (active : ps.contains .active = false := by rfl) (slotLen : ps.contains .slotLen = false := by rfl) : Mapped t := by
  have maps : t.sched.maps = s.sched.maps := k .maps maps
  have active : t.sched.active = s.sched.active := k .active active
  have slotLen : t.sched.slotLen = s.sched.slotLen := k .slotLen slotLen
  obtain ⟨legal, valid, low, high, step⟩ := h
  refine ⟨?_, fun run => ?_, ?_, ?_, ?_⟩
  · rwa [maps]
  · rw [maps, active]
    exact valid (running run)
  · rwa [slotLen]
  · rwa [slotLen]
  · rwa [slotLen]

theorem Mapped.of_changes {ps : List Piece} (h : Mapped s) (k : Changes ps s t) (progress : ps.contains .progress = false := by rfl)
    (maps : ps.contains .maps = false := by rfl) (active : ps.contains .active = false := by rfl)
    (slotLen : ps.contains .slotLen = false := by rfl) : Mapped t :=
  h.of_running k (fun run => (Scheduler.isRunning_eq (k .progress progress)).symm.trans run) maps active slotLen

theorem slotLengthTaken_mem (v : Nat) : 250 ≤ slotLengthTaken v ∧ slotLengthTaken v ≤ 4000 ∧ slotLengthTaken v % 50 = 0 := by
  obtain ⟨low, high⟩ := clampNat_mem (lo := 250) (hi := 4000) (by decide) v
  unfold slotLengthTaken
  dsimp only
  omega

theorem Mapped.setSlotLength (h : Mapped s) (v : Half) : Mapped (s.setSlotLength v) := by
  unfold State.setSlotLength
  split
  · exact h.of_changes (changes_reply s _ _ _)
  · next stopped =>
    obtain ⟨low, high, step⟩ := slotLengthTaken_mem v.toNat
    exact ⟨h.legal, fun run => absurd run stopped, low, high, step⟩

/-- Legal codes written over legal codes leave legal codes. -/
theorem writeCodes_legal {table : Tab Half 32} (h : ∀ i, (slotKindOf (table.look i)).isSome = true) {codes : List Half}
    (legal : ∀ c ∈ codes, (slotKindOf c).isSome = true) (first : Nat) :
    ∀ i, (slotKindOf ((writeCodes table first codes).look i)).isSome = true := by
  induction codes generalizing table first with
  | nil => exact h
  | cons c rest ih =>
    unfold writeCodes
    split
    · refine ih (fun i => ?_) (fun d hd => legal d (List.mem_cons_of_mem _ hd)) _
      rw [Tab.look_put]
      split
      · exact legal c List.mem_cons_self
      · exact h i
    · exact h

theorem Mapped.mapWrite (h : Mapped s) (map first has : Byte) (check : Half) (codes : List Half) :
    Mapped (s.mapWrite map first has check codes) := by
  unfold State.mapWrite
  split
  · exact ⟨h.legal, h.valid, h.low, h.high, h.step⟩
  · split
    · next m c _ _ =>
      split
      · next span =>
        split
        · exact h.of_changes (changes_reply s _ _ _)
        · next other =>
          simp only [legalSpan, Bool.and_eq_true, List.all_eq_true] at span
          refine ⟨fun m' i => ?_, fun run => ?_, h.low, h.high, h.step⟩
          · show (slotKindOf (((s.sched.maps.put m _).look m').codes.look i)).isSome = true
            rw [Tab.look_put]
            split
            · exact writeCodes_legal (h.legal m) span.2 _ i
            · exact h.legal m' i
          · have run : s.sched.isRunning = true := run
            have idle : s.sched.active ≠ m := fun e => other (by simp [run, e])
            show ((s.sched.maps.put m _).look s.sched.active).sum = 65535
            rw [Tab.look_put, if_neg idle]
            exact h.valid run
      · exact h.of_changes (changes_reply s _ _ _)
    · exact h.of_changes (changes_reply s _ _ _)

/-- A map is made active only if it is valid (R124, R125). -/
theorem Mapped.switch (h : Mapped s) : Mapped (s.setSched s.sched.switch.1) := by
  unfold Scheduler.switch
  split
  · next valid => exact ⟨h.legal, fun _ => by simpa [SlotMap.valid, Scheduler.map] using valid, h.low, h.high, h.step⟩
  · exact h

theorem Mapped.mapSwitchRequest (h : Mapped s) : Mapped s.mapSwitchRequest := by
  unfold State.mapSwitchRequest
  split
  · exact ⟨h.legal, h.valid, h.low, h.high, h.step⟩
  · dsimp only
    split
    · exact h.switch.of_changes (changes_reply _ _ _ _)
    · exact h.of_changes (changes_reply s _ _ _)

theorem Mapped.decideStaged (h : Mapped s) : Mapped s.decideStaged := by
  have switched := h.switch
  unfold State.decideStaged
  split
  · dsimp only
    split
    · exact ⟨switched.legal, switched.valid, switched.low, switched.high, switched.step⟩
    · exact ⟨switched.legal, switched.valid, switched.low, switched.high, switched.step⟩
  · exact h

theorem Mapped.scheduleStart (h : Mapped s) : Mapped s.scheduleStart := by
  unfold State.scheduleStart
  split
  · exact h.of_changes (changes_reply s _ _ _)
  · dsimp only
    split
    · next valid => exact ⟨h.legal, fun _ => by simpa [SlotMap.valid, Scheduler.map] using valid, h.low, h.high, h.step⟩
    · exact h.of_changes (changes_reply s _ _ _)

theorem Mapped.stopped (h : Mapped s) {ps : List Piece} (k : Changes ps s t) (stopped : t.sched.state = .stopped)
    (maps : ps.contains .maps = false := by rfl) (active : ps.contains .active = false := by rfl)
    (slotLen : ps.contains .slotLen = false := by rfl) : Mapped t :=
  h.of_running k (fun run => by
    obtain ⟨_, running⟩ := Scheduler.isRunning_iff _ |>.1 run
    rw [stopped] at running
    cases running) maps active slotLen

theorem Mapped.scheduleStop (h : Mapped s) : Mapped s.scheduleStop := by
  refine h.of_running (changes_scheduleStop s) fun run => ?_
  unfold State.scheduleStop at run
  dsimp only at run
  split at run
  · next running => exact running
  · exact run

theorem Mapped.beginStart (h : Mapped s) (cause : StartCause) : Mapped (s.beginStart cause) :=
  h.stopped (changes_beginStart s cause) rfl

theorem Mapped.restartRequest (h : Mapped s) (form : Byte) : Mapped (s.restartRequest form) := by
  unfold State.restartRequest
  split
  · exact h.beginStart _
  · exact ⟨h.legal, (fun run => nomatch run), h.low, h.high, h.step⟩
  · exact h.of_changes (changes_reply s _ _ _)

theorem Mapped.resetAssert (h : Mapped s) : Mapped s.resetAssert := by
  unfold State.resetAssert
  dsimp only
  split
  · exact ⟨h.legal, h.valid, h.low, h.high, h.step⟩
  · exact ⟨h.legal, (fun run => nomatch run), h.low, h.high, h.step⟩

theorem mapped_cold (cause : StartCause) (level : Bool) (pending : List Instr) : Mapped (State.cold cause level pending) := by
  refine ⟨fun m i => ?_, (fun run => nomatch run), (by decide : 250 ≤ 1000), (by decide : 1000 ≤ 4000), (rfl : 1000 % 50 = 0)⟩
  show (slotKindOf (((Tab.all 2 SlotMap.cold).look m).codes.look i)).isSome = true
  rw [Tab.look_all]
  show (slotKindOf ((Tab.all 32 (0 : Half)).look i)).isSome = true
  rw [Tab.look_all]
  rfl

theorem Mapped.completeStart (h : Mapped s) : Mapped s.completeStart := by
  unfold State.completeStart
  split
  · exact h
  · exact mapped_cold _ _ _

theorem Mapped.progressTo (h : Mapped s) (p : Progress) (running : s.sched.isRunning = true) : Mapped (s.progressTo p) :=
  h.of_running (changes_progressTo s p) fun _ => running

theorem Mapped.slotStart (h : Mapped s) : Mapped s.slotStart := by
  unfold State.slotStart
  split
  · next i waiting =>
    have started : Mapped (s.setSched (s.sched.startSlot i)) :=
      ⟨h.legal, fun _ => h.valid ((s.sched.isRunning_iff).2 ⟨_, waiting⟩), h.low, h.high, h.step⟩
    exact started.of_changes (changes_openOwner _ i _)
  · exact h

theorem Mapped.bodyStart (h : Mapped s) : Mapped s.bodyStart := by
  unfold State.bodyStart
  split
  · exact h
  · next o open_ =>
    split
    · have entered : Mapped (s.enterPart o .body) := h.progressTo _ (Scheduler.isRunning_of_openSlot open_)
      dsimp only
      split
      · exact entered.of_changes (changes_startBurst _ _)
      · exact entered.of_changes (changes_startBeacon _ _ _)
      · exact entered
    · exact h

theorem Mapped.tailStart (h : Mapped s) : Mapped s.tailStart := by
  unfold State.tailStart
  split
  · exact h
  · next o open_ =>
    split
    · exact h
    · have entered : Mapped (s.enterPart o .tail) := h.progressTo _ (Scheduler.isRunning_of_openSlot open_)
      dsimp only
      split
      · exact entered.of_changes (changes_rxTail _ _)
      · exact entered

theorem Mapped.move (h : Mapped s) (k : Move s t) : Mapped t := h.of_changes (changes_move k)

theorem Mapped.slotEnd (h : Mapped s) : Mapped s.slotEnd :=
  slotEnd_keeps (P := Mapped) (fun _ _ => Mapped.move) (fun _ _ h k => h.of_changes k)
    (fun _ d lines next h => h.of_changes (changes_post _ _ _ _)) (fun _ p h running => h.progressTo p running) h
    fun _ n set list _ _ _ => h.of_changes (changes_settle s n set list)

theorem Mapped.boundary (h : Mapped s) : Mapped s.boundary :=
  boundary_keeps (P := Mapped) (fun _ p h running => h.progressTo p running) (fun _ h => h.of_changes (changes_count _))
    (fun _ h => h.decideStaged) (fun _ h => run_keeps (P := Mapped) (fun _ _ => Mapped.move) h (moves_ageSeeking _))
    (fun _ h => h.of_changes (changes_boundaryTrigger _)) h

theorem Mapped.exec (h : Mapped s) {c : Instr} (next : exec c s = .next t) : Mapped t := by
  have asked : ∀ {owner}, work c = .request owner → (∀ u, Mapped u → Mapped (owner u)) → Mapped t :=
    fun hc done => request_keeps next hc (fun h => h.of_changes (changes_setPhase s .spent)) done h
  cases c with
  | slotLength v => exact asked rfl fun _ h => h.setSlotLength v
  | mapWrite map first has check codes => exact asked rfl fun _ h => h.mapWrite map first has check codes
  | mapSwitch => exact asked rfl fun _ h => h.mapSwitchRequest
  | scheduleStart => exact asked rfl fun _ h => h.scheduleStart
  | scheduleStop => exact asked rfl fun _ h => h.scheduleStop
  | restartWarm => exact asked rfl fun _ h => h.restartRequest 1
  | restartCold => exact asked rfl fun _ h => h.restartRequest 0
  | restartRange form => exact asked rfl fun _ h => h.restartRequest form
  | powerOn => exact exec_event next rfl ▸ h.beginStart .power
  | reset => exact exec_event next rfl ▸ h.resetAssert
  | coldStartCompletion => exact exec_event next rfl ▸ h.completeStart
  | slotStart => exact exec_event next rfl ▸ h.slotStart
  | bodyStart => exact exec_event next rfl ▸ h.bodyStart
  | tailStart => exact exec_event next rfl ▸ h.tailStart
  | slotEnd => exact exec_event next rfl ▸ h.slotEnd
  | superframeBoundary => exact exec_event next rfl ▸ h.boundary
  | _ => exact h.of_changes (changes_exec next) rfl rfl rfl rfl

/-! ### Corrections -/

/-- The law of one open slot (R115, R132). -/
def OpenSlot.Corrected (o : OpenSlot) : Prop := o.corr.natAbs ≤ 25 ∧ (o.index ≠ 31 → o.corr = 0 ∧ o.boundaryTaken = false)

theorem correctionLaw_iff : CorrectionLaw s ↔ ∀ o, s.sched.openSlot = some o → o.Corrected := Iff.rfl

theorem Scheduler.openSlot_eq {c d : Scheduler} (h : d.state = c.state) : d.openSlot = c.openSlot := by
  unfold Scheduler.openSlot
  rw [h]

theorem CorrectionLaw.of_changes {ps : List Piece} (h : CorrectionLaw s) (k : Changes ps s t)
    (progress : ps.contains .progress = false := by rfl) : CorrectionLaw t := by
  intro o open_
  rw [Scheduler.openSlot_eq (k .progress progress)] at open_
  exact h o open_

theorem correctionLaw_of_closed (closed : s.sched.openSlot = none) : CorrectionLaw s := fun o open_ => by
  rw [closed] at open_
  cases open_

theorem correctionOf_mem (pending : Option Int) : (correctionOf pending).natAbs ≤ 25 := by
  unfold correctionOf
  split
  · decide
  · unfold clampInt maxCorrection
    split
    · decide
    · split <;> omega

theorem Scheduler.corrected_slotAt (c : Scheduler) (i : SlotIdx) : (c.slotAt i).Corrected := by
  unfold Scheduler.slotAt
  by_cases last : i = 31
  · exact ⟨by simpa [last] using correctionOf_mem c.pendingD, fun other => absurd last other⟩
  · exact ⟨by simp [last], fun _ => ⟨if_neg last, rfl⟩⟩

theorem CorrectionLaw.opened {o : OpenSlot} (corrected : o.Corrected) : CorrectionLaw (s.progressTo (.opened o)) :=
  fun _ open_ => Option.some.inj open_ ▸ corrected

theorem CorrectionLaw.slotStart (h : CorrectionLaw s) : CorrectionLaw s.slotStart := by
  unfold State.slotStart
  split
  · next i _ =>
    have started : CorrectionLaw (s.setSched (s.sched.startSlot i)) :=
      fun o open_ => Option.some.inj open_ ▸ s.sched.corrected_slotAt i
    exact started.of_changes (changes_openOwner _ i _)
  · exact h

theorem CorrectionLaw.bodyStart (h : CorrectionLaw s) : CorrectionLaw s.bodyStart := by
  unfold State.bodyStart
  split
  · exact h
  · next o open_ =>
    split
    · have entered : CorrectionLaw (s.enterPart o .body) := CorrectionLaw.opened (h o open_)
      dsimp only
      split
      · exact entered.of_changes (changes_startBurst _ _)
      · exact entered.of_changes (changes_startBeacon _ _ _)
      · exact entered
    · exact h

theorem CorrectionLaw.tailStart (h : CorrectionLaw s) : CorrectionLaw s.tailStart := by
  unfold State.tailStart
  split
  · exact h
  · next o open_ =>
    split
    · exact h
    · have entered : CorrectionLaw (s.enterPart o .tail) := CorrectionLaw.opened (h o open_)
      dsimp only
      split
      · exact entered.of_changes (changes_rxTail _ _)
      · exact entered

theorem OpenSlot.after_ne_opened (o o' : OpenSlot) : o.after ≠ .opened o' := by
  unfold OpenSlot.after
  split
  · split <;> exact fun e => nomatch e
  · exact fun e => nomatch e

/-- After the end of a slot none is open. -/
theorem State.openSlot_after (s : State) (o : OpenSlot) : (s.progressTo o.after).sched.openSlot = none := by
  unfold Scheduler.openSlot
  split
  · next o' e =>
    exact absurd (SchedState.running.inj e) (o.after_ne_opened o')
  · rfl

theorem CorrectionLaw.slotEnd (h : CorrectionLaw s) : CorrectionLaw s.slotEnd := by
  unfold State.slotEnd
  split
  · exact h
  · next o _ => exact correctionLaw_of_closed (State.openSlot_after _ o)

theorem CorrectionLaw.boundaryWork (h : CorrectionLaw s) : CorrectionLaw s.boundaryWork :=
  boundaryWork_keeps (P := CorrectionLaw) (fun h => h.of_changes (changes_count _)) (fun _ h => h.of_changes (changes_decideStaged _))
    (fun _ h => h.of_changes (changes_run changes_move (moves_ageSeeking _)))
    (fun _ h => h.of_changes (changes_boundaryTrigger _)) h

theorem CorrectionLaw.boundary (h : CorrectionLaw s) : CorrectionLaw s.boundary := by
  unfold State.boundary
  split
  · exact CorrectionLaw.boundaryWork (correctionLaw_of_closed rfl)
  · next o open_ =>
    have corrected : o.Corrected := h o (by unfold Scheduler.openSlot; rw [open_])
    split
    · next last => exact CorrectionLaw.boundaryWork (CorrectionLaw.opened ⟨corrected.1, fun other => absurd last.1 other⟩)
    · exact h
  · exact h

theorem CorrectionLaw.scheduleStart (h : CorrectionLaw s) : CorrectionLaw s.scheduleStart := by
  unfold State.scheduleStart
  split
  · exact h
  · dsimp only
    split
    · exact correctionLaw_of_closed rfl
    · exact h

theorem CorrectionLaw.scheduleStop (h : CorrectionLaw s) : CorrectionLaw s.scheduleStop := by
  unfold State.scheduleStop
  dsimp only
  split
  · exact correctionLaw_of_closed rfl
  · exact h

theorem CorrectionLaw.restartRequest (h : CorrectionLaw s) (form : Byte) : CorrectionLaw (s.restartRequest form) := by
  unfold State.restartRequest
  split
  · exact correctionLaw_of_closed rfl
  · exact correctionLaw_of_closed rfl
  · exact h

theorem CorrectionLaw.resetAssert (h : CorrectionLaw s) : CorrectionLaw s.resetAssert := by
  unfold State.resetAssert
  dsimp only
  split
  · exact h
  · exact correctionLaw_of_closed rfl

theorem CorrectionLaw.completeStart (h : CorrectionLaw s) : CorrectionLaw s.completeStart := by
  unfold State.completeStart
  split
  · exact h
  · exact correctionLaw_of_closed rfl

theorem CorrectionLaw.exec (h : CorrectionLaw s) {c : Instr} (next : exec c s = .next t) : CorrectionLaw t := by
  have asked : ∀ {owner}, work c = .request owner → (∀ u, CorrectionLaw u → CorrectionLaw (owner u)) → CorrectionLaw t :=
    fun hc done => request_keeps next hc (fun h => h) done h
  cases c with
  | scheduleStart => exact asked rfl fun _ h => h.scheduleStart
  | scheduleStop => exact asked rfl fun _ h => h.scheduleStop
  | restartWarm => exact asked rfl fun _ h => h.restartRequest 1
  | restartCold => exact asked rfl fun _ h => h.restartRequest 0
  | restartRange form => exact asked rfl fun _ h => h.restartRequest form
  | powerOn => exact exec_event next rfl ▸ correctionLaw_of_closed rfl
  | reset => exact exec_event next rfl ▸ h.resetAssert
  | coldStartCompletion => exact exec_event next rfl ▸ h.completeStart
  | slotStart => exact exec_event next rfl ▸ h.slotStart
  | bodyStart => exact exec_event next rfl ▸ h.bodyStart
  | tailStart => exact exec_event next rfl ▸ h.tailStart
  | slotEnd => exact exec_event next rfl ▸ h.slotEnd
  | superframeBoundary => exact exec_event next rfl ▸ h.boundary
  | _ => exact h.of_changes (changes_exec next) rfl

end

end Sys2Proof.Machine
end

section
/-! Front end and scanner under every command: one owner of the front end at a time, and a dwell only in an open SCAN slot with no
SCANNER notice pending (R78, R99, R103, R112, R137, R141, R143 to R146). -/

namespace Sys2Proof.Machine

open Sys2Proof

section
variable {s t : State}

/-! ### Triggers -/

/-- An abandoned or ended dwell: the scanner dwells no more, and the front end is as before or, after a dwell, quiet (R139, R146). -/
structure Undwelt (s t : State) : Prop where
  idle : ∀ d, t.scan.state ≠ .dwelling d
  radio : t.radio = s.radio ∨ ((∃ d, s.scan.state = .dwelling d) ∧ t.radio = s.radio.quiet)

theorem State.undwelt_restartScan (s : State) : Undwelt s s.restartScan := by
  refine ⟨fun d e => ?_, ?_⟩
  · unfold State.restartScan at e
    cases e
  · unfold State.restartScan
    split
    · next d dwelling => exact .inr ⟨⟨d, dwelling⟩, rfl⟩
    · exact .inl rfl

/-- A trigger restarts the scanner, resumes it out of WAITING, or is ignored (R139). -/
theorem State.trigger_cases (s : State) :
    s.trigger.1 = s.restartScan ∨ (∃ sec, s.trigger.1 = s.setScan { s.scan with state := .armed sec } ∧ ∀ d, s.scan.state ≠ .dwelling d)
      ∨ s.trigger.1 = s.ignoreTrigger := by
  unfold State.trigger
  split
  · exact .inl rfl
  · next cur sec waiting _ => exact .inr (.inl ⟨sec, rfl, fun d e => by rw [waiting] at e; cases e⟩)
  · exact .inl rfl
  · exact .inr (.inr rfl)

theorem State.trigger_undwelt (s : State) :
    Undwelt s s.trigger.1 ∨ (s.trigger.1.scan.state = s.scan.state ∧ s.trigger.1.radio = s.radio) := by
  obtain e | ⟨sec, e, -⟩ | e := s.trigger_cases <;> rw [e]
  · exact .inl s.undwelt_restartScan
  · exact .inl ⟨(fun d e => nomatch e), .inl rfl⟩
  · exact .inr ⟨rfl, rfl⟩

/-! ### Front end -/

/-- The front end in an open slot, its contexts and the scanner (R9, R78, R99, R103, R112, R141). -/
structure Radio.Serves (r : Radio) (st : ScanState) (o : OpenSlot) : Prop where
  rx : r.rx ≠ none → ∃ n, o.kind = .rx n
  tx : ∀ ctx, r.tx = some ctx → (∃ n, o.kind = .tx n) ∧ (ctx.phase = .burst → r.rxon = false) ∧ (o.part = .guard → ctx.phase = .burst)
  beacon : r.beacon ≠ none → ∃ sec, o.kind = .beacon sec
  deaf : ∀ sec, o.kind = .beacon sec → r.rxon = false
  dwell : ∀ d, st = .dwelling d → o.kind = .scan
  guard : o.part = .guard → r.onAir = none
  txon : r.txon = r.onAir.isSome
  apart : r.txon = true → r.rxon = false
  tier : ∀ air, r.onAir = some air → air.kind ≠ .burst → air.tier = 0

/-- The law of the front end by the open slot (R78, R99, R115, R141). -/
structure Fronted (s : State) : Prop where
  closed : s.sched.openSlot = none → s.radio = Radio.off ∧ ∀ d, s.scan.state ≠ .dwelling d
  opened : ∀ o, s.sched.openSlot = some o → s.radio.Serves s.scan.state o

theorem frontEndLaw_iff : FrontEndLaw s ↔ Fronted s :=
  ⟨fun ⟨closed, opened⟩ => ⟨closed, fun o open_ => by
      obtain ⟨rx, tx, beacon, deaf, dwell, guard, txon, apart, tier⟩ := opened o open_
      exact ⟨rx, tx, beacon, deaf, dwell, guard, txon, apart, tier⟩⟩,
    fun h => ⟨h.closed, fun o open_ => by
      obtain ⟨rx, tx, beacon, deaf, dwell, guard, txon, apart, tier⟩ := h.opened o open_
      exact ⟨rx, tx, beacon, deaf, dwell, guard, txon, apart, tier⟩⟩⟩

/-- The front end serves the slot still where the scanner begins no dwell. -/
theorem Radio.Serves.of_scan {r : Radio} {st st' : ScanState} {o : OpenSlot} (h : r.Serves st o)
    (scan : ∀ d, st' = .dwelling d → ∃ d', st = .dwelling d') : r.Serves st' o :=
  ⟨h.rx, h.tx, h.beacon, h.deaf, fun d e => by
    obtain ⟨d', was⟩ := scan d e
    exact h.dwell d' was, h.guard, h.txon, h.apart, h.tier⟩

theorem Radio.Serves.quiet {r : Radio} {st : ScanState} {o : OpenSlot} (h : r.Serves st o) : r.quiet.Serves st o :=
  ⟨h.rx, fun ctx e => ⟨(h.tx ctx e).1, fun _ => rfl, (h.tx ctx e).2.2⟩, h.beacon, fun _ _ => rfl, h.dwell, h.guard, h.txon,
    fun _ => rfl, h.tier⟩

/-- A front end that is off serves any slot in which the scanner does not dwell. -/
theorem Radio.serves_off {st : ScanState} {o : OpenSlot} (idle : ∀ d, st ≠ .dwelling d) : Radio.off.Serves st o :=
  ⟨(fun e => absurd rfl e), (fun _ e => nomatch e), (fun e => absurd rfl e), (fun _ _ => rfl), (fun d e => absurd e (idle d)),
    (fun _ => rfl), rfl, (fun e => nomatch e), (fun _ e => nomatch e)⟩

theorem Fronted.of_same (h : Fronted s) (progress : t.sched.state = s.sched.state) (radio : t.radio = s.radio)
    (scan : ∀ d, t.scan.state = .dwelling d → ∃ d', s.scan.state = .dwelling d') : Fronted t := by
  have same := Scheduler.openSlot_eq progress
  refine ⟨fun closed => ?_, fun o open_ => ?_⟩
  · obtain ⟨off, idle⟩ := h.closed (same.symm.trans closed)
    refine ⟨radio.trans off, fun d e => ?_⟩
    obtain ⟨d', was⟩ := scan d e
    exact idle d' was
  · rw [radio]
    exact (h.opened o (same.symm.trans open_)).of_scan scan

theorem Fronted.of_changes {ps : List Piece} (h : Fronted s) (k : Changes ps s t) (progress : ps.contains .progress = false := by rfl)
    (radio : ps.contains .radio = false := by rfl) (scan : ps.contains .scanState = false := by rfl) : Fronted t :=
  h.of_same (k .progress progress) (k .radio radio) fun d e => ⟨d, Eq.trans (k .scanState scan).symm e⟩

/-- The front end changed in a way that serves every open slot still. -/
theorem Fronted.of_radio {ps : List Piece} (h : Fronted s) (k : Changes ps s t)
    (serves : ∀ o, s.sched.openSlot = some o → s.radio.Serves s.scan.state o → t.radio.Serves s.scan.state o)
    (off : s.radio = Radio.off → t.radio = Radio.off) (progress : ps.contains .progress = false := by rfl)
    (scan : ps.contains .scanState = false := by rfl) : Fronted t := by
  have same := Scheduler.openSlot_eq (k .progress progress)
  have scan : t.scan.state = s.scan.state := k .scanState scan
  refine ⟨fun closed => ?_, fun o open_ => ?_⟩
  · obtain ⟨silent, idle⟩ := h.closed (same.symm.trans closed)
    exact ⟨off silent, fun d e => idle d (scan.symm.trans e)⟩
  · rw [scan]
    exact serves o (same.symm.trans open_) (h.opened o (same.symm.trans open_))

/-- A dwell given up leaves the front end to its slot, quiet. -/
theorem Fronted.undwell {ps : List Piece} (h : Fronted s) (k : Changes ps s t) (undwelt : Undwelt s t)
    (progress : ps.contains .progress = false := by rfl) : Fronted t := by
  have same := Scheduler.openSlot_eq (k .progress progress)
  have idle : ∀ d, t.scan.state = .dwelling d → ∃ d', s.scan.state = .dwelling d' := fun d e => absurd e (undwelt.idle d)
  refine ⟨fun closed => ?_, fun o open_ => ?_⟩
  · obtain ⟨off, still⟩ := h.closed (same.symm.trans closed)
    refine ⟨?_, undwelt.idle⟩
    obtain e | ⟨⟨d, dwelling⟩, -⟩ := undwelt.radio
    · exact e.trans off
    · exact absurd dwelling (still d)
  · have serves := h.opened o (same.symm.trans open_)
    obtain e | ⟨-, e⟩ := undwelt.radio <;> rw [e]
    · exact serves.of_scan idle
    · exact serves.quiet.of_scan idle

theorem Fronted.trigger (h : Fronted s) : Fronted s.trigger.1 := by
  obtain undwelt | ⟨scan, radio⟩ := s.trigger_undwelt
  · exact h.undwell (changes_trigger s) undwelt
  · exact h.of_same (changes_trigger s .progress rfl) radio fun d e => ⟨d, scan.symm.trans e⟩

theorem Fronted.lossTrigger (h : Fronted s) : Fronted s.lossTrigger := by
  unfold State.lossTrigger
  split
  · exact h.trigger
  · exact h

theorem Fronted.boundaryTrigger (h : Fronted s) : Fronted s.boundaryTrigger := by
  unfold State.boundaryTrigger
  split
  · exact h.trigger
  · exact h

theorem Fronted.changeState (h : Fronted s) (n : NbrIdx) (new : LinkState) (cause : LinkCause) : Fronted (s.changeState n new cause) := by
  have parked := (h.of_changes (changes_setNbr s n { (s.nbr n).clearRuns with state := new })).of_changes
    (changes_parkFor _ n (s.nbr n).state new)
  unfold State.changeState State.afterChange
  dsimp only
  split
  · exact (parked.of_changes (changes_rescue _ n)).lossTrigger.of_changes (changes_post _ _ _ _)
  · exact parked.of_changes (changes_post _ _ _ _)

theorem Fronted.move (h : Fronted s) (k : Move s t) : Fronted t := by
  cases k with
  | revise n _ => exact h.of_changes (changes_setNbr s n _)
  | change n new cause _ _ _ => exact h.changeState n new cause
  | tell n cause => exact h.of_changes (changes_post s _ _ _)
  | grow => exact h.of_changes (ps := [.nbrs]) fun p hp => by cases p <;> cases hp <;> rfl
  | measure b => exact h.of_changes (changes_measure s b)

theorem Fronted.moves (h : Fronted s) (run : Moves s t) : Fronted t := run_keeps (P := Fronted) (fun _ _ => Fronted.move) h run

theorem Fronted.traffic (h : Fronted s) (k : Traffic s t) : Fronted t := by
  cases k with
  | hear ctx open_ =>
    refine h.of_radio (changes_setRadio s _) (fun o _ serves => ?_) fun off => ?_
    · exact ⟨fun _ => serves.rx (by simp [open_]), serves.tx, serves.beacon, serves.deaf, serves.dwell, serves.guard, serves.txon,
        serves.apart, serves.tier⟩
    · rw [off] at open_
      cases open_
  | failed => exact h.of_changes (ps := [.checkFail]) fun p hp => by cases p <;> cases hp <;> rfl
  | foreign => exact h.of_changes (ps := [.foreign]) fun p hp => by cases p <;> cases hp <;> rfl
  | revise n _ => exact h.of_changes (changes_setNbr s n _)
  | look q => exact h.of_changes (changes_frameLookup s q)
  | drop why => exact h.of_changes (changes_countDiscard _ _)
  | deliver ing cls hops unrouted _ _ =>
    exact (h.of_changes (changes_allocate _ _ ing _ cls hops _)).of_changes (changes_appendDelivery _ _ unrouted)
  | relay ing cls _ _ _ _ _ _ _ =>
    exact (h.of_changes (changes_allocate _ _ ing _ cls _ _)).of_changes (changes_appendQueue _ _ _)

theorem Fronted.travels (h : Fronted s) (run : Travels s t) : Fronted t :=
  run_keeps (P := Fronted) (fun _ _ => Fronted.traffic) h run

/-! #### The course of a slot -/

/-- Before the start of a slot the front end is off and no dwell is open. -/
theorem Fronted.before (h : Fronted s) {i : SlotIdx} (waiting : s.sched.state = .running (.awaitStart i)) :
    s.radio = Radio.off ∧ ∀ d, s.scan.state ≠ .dwelling d :=
  h.closed (by unfold Scheduler.openSlot; rw [waiting])

/-- The front end of a slot just opened. -/
def Opened (s : State) (o : OpenSlot) : Prop := s.sched.openSlot = some o ∧ s.radio = Radio.off ∧ ∀ d, s.scan.state ≠ .dwelling d

theorem fronted_of_open {o : OpenSlot} (open_ : s.sched.openSlot = some o) (serves : s.radio.Serves s.scan.state o) : Fronted s :=
  ⟨fun closed => absurd (open_.symm.trans closed) (fun e => nomatch e), fun o' e => by
    rw [open_] at e
    exact Option.some.inj e ▸ serves⟩

theorem Opened.fronted {o : OpenSlot} (h : Opened s o) : Fronted s := by
  obtain ⟨open_, off, idle⟩ := h
  refine fronted_of_open open_ ?_
  rw [off]
  exact Radio.serves_off idle

theorem Opened.of_changes {o : OpenSlot} {ps : List Piece} (h : Opened s o) (k : Changes ps s t)
    (progress : ps.contains .progress = false := by rfl) (radio : ps.contains .radio = false := by rfl)
    (scan : ps.contains .scanState = false := by rfl) : Opened t o := by
  obtain ⟨open_, off, idle⟩ := h
  refine ⟨(Scheduler.openSlot_eq (k .progress progress)).trans open_, Eq.trans (k .radio radio) off, fun d e => ?_⟩
  exact idle d (Eq.trans (k .scanState scan).symm e)

/-- An opened slot given a front end that serves it. -/
theorem Opened.setRadio {o : OpenSlot} (h : Opened s o) {r : Radio} (serves : r.Serves s.scan.state o) : Fronted (s.setRadio r) :=
  fronted_of_open h.1 serves

theorem Opened.openRx {o : OpenSlot} (h : Opened s o) {n : NbrIdx} (kind : o.kind = .rx n) : Fronted (s.openRx n) := by
  unfold State.openRx
  dsimp only
  split
  · refine h.setRadio ?_
    rw [h.2.1]
    exact ⟨fun _ => ⟨n, kind⟩, (fun _ e => nomatch e), (fun e => absurd rfl e), (fun sec e => absurd (kind.symm.trans e) (fun e => nomatch e)),
      (fun d e => absurd e (h.2.2 d)), (fun _ => rfl), rfl, (fun e => nomatch e), (fun _ e => nomatch e)⟩
  · exact h.fronted

/-- A fresh transmit context, in BURST with nothing on the air, serves its TX slot (R99). -/
theorem Opened.setTx {o : OpenSlot} (h : Opened s o) {n : NbrIdx} (kind : o.kind = .tx n) {ctx : TxCtx} (burst : ctx.phase = .burst) :
    Fronted (s.setRadio { s.radio with tx := some ctx }) := by
  refine h.setRadio ?_
  rw [h.2.1]
  refine ⟨(fun e => absurd rfl e), fun c e => ?_, (fun e => absurd rfl e), (fun _ _ => rfl), (fun d e => absurd e (h.2.2 d)),
    (fun _ => rfl), rfl, (fun e => nomatch e), (fun _ e => nomatch e)⟩
  obtain rfl := Option.some.inj e
  exact ⟨⟨n, kind⟩, fun _ => rfl, fun _ => burst⟩

theorem Opened.openTx {o : OpenSlot} (h : Opened s o) {n : NbrIdx} (kind : o.kind = .tx n) : Fronted (s.openTx n) := by
  unfold State.openTx
  dsimp only
  split
  · split
    · exact h.setTx kind rfl
    · have chosen : Opened (s.selectFrames n (byteCost (tierOf s.mon.settings (s.nbr n).cap ((s.nbr n).acc.map marginOf)))).1 o :=
        (h.of_changes (changes_dropOversize s _ (slotBody s.sched.slotLen) (s.queue n))).of_changes (changes_setQueue _ n _)
      split
      · exact chosen.setTx kind rfl
      · exact chosen.setTx kind rfl
  · exact h.fronted

theorem Opened.openBeacon {o : OpenSlot} (h : Opened s o) {sec : Sector} (kind : o.kind = .beacon sec) :
    Fronted (s.openBeacon sec) := by
  unfold State.openBeacon
  split
  · refine h.setRadio ?_
    rw [h.2.1]
    exact ⟨(fun e => absurd rfl e), (fun _ e => nomatch e), fun _ => ⟨sec, kind⟩, (fun _ _ => rfl), (fun d e => absurd e (h.2.2 d)),
      (fun _ => rfl), rfl, (fun e => nomatch e), (fun _ e => nomatch e)⟩
  · exact h.fronted

theorem Opened.openScan {o : OpenSlot} (h : Opened s o) (kind : o.kind = .scan) (i : SlotIdx) : Fronted (s.openScan i) := by
  unfold State.openScan
  split
  · split
    · exact h.fronted.of_same rfl rfl fun d e => nomatch e
    · refine fronted_of_open (o := o) h.1 ?_
      show Radio.Serves { s.radio with rxon := true, sector := _ } _ o
      rw [h.2.1]
      exact ⟨(fun e => absurd rfl e), (fun _ e => nomatch e), (fun e => absurd rfl e), (fun sec e => absurd (kind.symm.trans e) (fun e => nomatch e)),
        (fun _ _ => kind), (fun _ => rfl), rfl, (fun e => nomatch e), (fun _ e => nomatch e)⟩
  · exact h.fronted

theorem Fronted.slotStart (h : Fronted s) : Fronted s.slotStart := by
  unfold State.slotStart
  split
  · next i waiting =>
    obtain ⟨off, idle⟩ := h.before waiting
    have started : Opened (s.setSched (s.sched.startSlot i)) (s.sched.slotAt i) := ⟨rfl, off, idle⟩
    cases kind : (s.sched.slotAt i).kind with
    | idle => exact started.fronted
    | tx n => exact started.openTx kind
    | rx n => exact started.openRx kind
    | beacon sec => exact started.openBeacon kind
    | scan => exact started.openScan kind i
  · exact h

/-- At the first tick of the body the content of a TX slot or the beacon goes on the air, and nothing listens (R103, R112). -/
theorem Fronted.bodyStart (h : Fronted s) : Fronted s.bodyStart := by
  unfold State.bodyStart
  split
  · exact h
  · next o open_ =>
    split
    · next guard =>
      obtain ⟨rx, tx, beacon, deaf, dwell, silent, txon, apart, tier⟩ := h.opened o open_
      have entered : (s.enterPart o .body).radio.Serves s.scan.state { o with part := .body } :=
        ⟨rx, fun ctx e => ⟨(tx ctx e).1, (tx ctx e).2.1, (fun e => nomatch e)⟩, beacon, deaf, dwell, (fun e => nomatch e), txon, apart, tier⟩
      have body : Fronted (s.enterPart o .body) := fronted_of_open rfl entered
      dsimp only
      split
      · next ctx held =>
        unfold State.startBurst
        split
        · exact body
        · have listens : s.radio.rxon = false := (tx ctx held).2.1 ((tx ctx held).2.2 guard)
          exact fronted_of_open rfl ⟨rx, entered.tx, beacon, deaf, dwell, (fun e => nomatch e), rfl, fun _ => listens,
            fun air e other => absurd (by rw [← Option.some.inj e]) other⟩
      · next sec unheld waiting =>
        unfold State.startBeacon
        split
        · exact body
        · have waiting : s.radio.beacon = some sec := waiting
          obtain ⟨sec', kind⟩ := beacon (by simp [waiting])
          exact fronted_of_open rfl ⟨rx, entered.tx, (fun e => absurd rfl e), deaf, dwell, (fun e => nomatch e), rfl,
            fun _ => deaf sec' kind, fun air e _ => by rw [← Option.some.inj e]⟩
      · exact body
    · exact h

theorem Fronted.tailStart (h : Fronted s) : Fronted s.tailStart := by
  unfold State.tailStart
  split
  · exact h
  · next o open_ =>
    split
    · exact h
    · obtain ⟨rx, tx, beacon, deaf, dwell, silent, txon, apart, tier⟩ := h.opened o open_
      have entered : (s.enterPart o .tail).radio.Serves s.scan.state { o with part := .tail } :=
        ⟨rx, fun ctx e => ⟨(tx ctx e).1, (tx ctx e).2.1, (fun e => nomatch e)⟩, beacon, deaf, dwell, (fun e => nomatch e), txon, apart, tier⟩
      dsimp only
      split
      · unfold State.rxTail
        dsimp only
        split
        · exact fronted_of_open rfl ⟨rx, fun c e => ⟨(tx c e).1, fun _ => rfl, (fun e => nomatch e)⟩, beacon, fun _ _ => rfl, dwell,
            (fun e => nomatch e), rfl, fun _ => rfl, fun air e _ => by rw [← Option.some.inj e]⟩
        · exact fronted_of_open rfl ⟨rx, fun c e => ⟨(tx c e).1, fun _ => rfl, (fun e => nomatch e)⟩, beacon, fun _ _ => rfl, dwell,
            (fun e => nomatch e), txon, fun _ => rfl, tier⟩
      · exact fronted_of_open rfl entered

theorem Fronted.endBurst (h : Fronted s) : Fronted s.endBurst := by
  unfold State.endBurst
  split
  · next ctx air held onAir =>
    split
    · refine h.of_radio (changes_setRadio s _) (fun o _ serves => ?_) fun off => ?_
      · obtain ⟨⟨n, kind⟩, -⟩ := serves.tx ctx held
        have inside : o.part ≠ .guard := fun guard => by
          rw [serves.guard guard] at onAir
          cases onAir
        refine ⟨serves.rx, fun c e => ?_, serves.beacon, fun sec e => ?_, serves.dwell, fun _ => rfl, rfl, (fun e => nomatch e),
          (fun _ e => nomatch e)⟩
        · obtain rfl := Option.some.inj e
          exact ⟨⟨n, kind⟩, (fun e => nomatch e), fun guard => absurd guard inside⟩
        · rw [kind] at e
          cases e
      · rw [off] at held
        cases held
    · exact h
  · exact h

/-- A transmission that ends, or is cut, is off the air with TXON released. -/
theorem Radio.Serves.release {r : Radio} {st : ScanState} {o : OpenSlot} (h : r.Serves st o) :
    Radio.Serves { r with onAir := none, txon := false } st o :=
  ⟨h.rx, h.tx, h.beacon, h.deaf, h.dwell, fun _ => rfl, rfl, (fun e => nomatch e), (fun _ e => nomatch e)⟩

theorem Fronted.endAir (h : Fronted s) (kind : AirKind) : Fronted (s.endAir kind) := by
  unfold State.endAir
  split
  · split
    · refine h.of_radio (changes_setRadio s _) (fun o _ serves => serves.release) fun off => ?_
      show ({ s.radio with onAir := none, txon := false } : Radio) = _
      rw [off]
      rfl
    · exact h
  · exact h

/-- A transmit context of the same phase in its place. -/
theorem Radio.Serves.refit {r : Radio} {st : ScanState} {o : OpenSlot} (h : r.Serves st o) {c d : TxCtx} (held : r.tx = some c)
    (phase : d.phase = c.phase) : Radio.Serves { r with tx := some d } st o := by
  refine ⟨h.rx, fun ctx e => ?_, h.beacon, h.deaf, h.dwell, h.guard, h.txon, h.apart, h.tier⟩
  obtain rfl := Option.some.inj e
  rw [phase]
  exact h.tx c held

theorem Fronted.txArrival (h : Fronted s) (bytes : List Byte) (code : Code) : Fronted (s.txArrival bytes code) := by
  have foreign : Fronted s.countForeign := h.of_changes (ps := [.foreign]) fun p hp => by cases p <;> cases hp <;> rfl
  unfold State.txArrival
  split
  · next ctx o held _ =>
    split
    · split
      · exact h
      · split
        · exact h.of_changes (ps := [.checkFail]) fun p hp => by cases p <;> cases hp <;> rfl
        · unfold State.soundInTail
          split
          · split
            · split
              · refine h.of_radio (changes_setRadio s _) (fun _ _ serves => serves.refit held rfl) fun off => ?_
                rw [off] at held
                cases held
              · exact h
            · exact foreign
          · exact foreign
    · exact h
  · exact h

theorem Fronted.takeQuiet (h : Fronted s) (code : Code) : Fronted (s.takeQuiet code) := by
  unfold State.takeQuiet
  split
  · next d dwelling =>
    split
    · exact h.of_same rfl rfl fun _ _ => ⟨d, dwelling⟩
    · exact h
  · exact h

theorem Fronted.dwellArrival (h : Fronted s) (bytes : List Byte) (code : Code) (time : Nat) :
    Fronted (s.dwellArrival bytes code time) := by
  unfold State.dwellArrival
  split
  · next d _ dwelling _ =>
    split
    · exact h
    · exact h.of_same rfl rfl fun _ _ => ⟨d, dwelling⟩
  · exact h

theorem ScanSettings.nextState_ne_dwelling (c : ScanSettings) (sec : Sector) (d : Dwell) : c.nextState sec ≠ .dwelling d := by
  unfold ScanSettings.nextState
  split
  · split <;> exact fun e => nomatch e
  · split <;> exact fun e => nomatch e
  · split <;> exact fun e => nomatch e
  · exact fun e => nomatch e

/-- The work of a slot's end leaves no dwell open: a SCAN slot ends its own, and no other slot has one. -/
theorem Fronted.undwelt_endOwner (h : Fronted s) {o : OpenSlot} (open_ : s.sched.openSlot = some o) (d : Dwell) :
    (s.endOwner o.kind).scan.state ≠ .dwelling d := by
  have other : ∀ {u : State}, o.kind ≠ .scan → Moves s u → u.scan.state ≠ .dwelling d := fun {u} unscanned run e => by
    have still := h.moves run
    have open' : u.sched.openSlot = some o :=
      (Scheduler.openSlot_eq (changes_run changes_move run .progress rfl)).trans open_
    exact unscanned ((still.opened o open').dwell d e)
  cases kind : o.kind with
  | idle => exact other (by simp [kind]) .refl
  | beacon _ => exact other (by simp [kind]) .refl
  | rx n =>
    unfold State.endOwner
    dsimp only
    split
    · exact other (by simp [kind]) (moves_rxEnd s _)
    · exact other (by simp [kind]) .refl
  | tx n =>
    intro e
    have still : Fronted (s.endOwner (.tx n)) := by
      unfold State.endOwner
      dsimp only
      split
      · exact txEnd_keeps (P := Fronted) (fun _ _ => Fronted.move) h fun m set list _ _ => h.of_changes (changes_settle s m set list)
      · exact h
    have open' := (Scheduler.openSlot_eq (changes_endOwner s (.tx n) .progress rfl)).trans open_
    have scan := (still.opened o open').dwell d e
    rw [kind] at scan
    cases scan
  | scan =>
    unfold State.endOwner
    dsimp only
    split
    · exact ScanSettings.nextState_ne_dwelling _ _ d
    · next undwelt => exact undwelt d

theorem Fronted.slotEnd (h : Fronted s) : Fronted s.slotEnd := by
  unfold State.slotEnd
  split
  · exact h
  · next o open_ =>
    refine ⟨fun _ => ⟨rfl, h.undwelt_endOwner open_⟩, fun o' e => ?_⟩
    have closed := State.openSlot_after ((s.endOwner o.kind).setRadio Radio.off) o
    exact absurd (closed.symm.trans e) (fun e => nomatch e)

theorem Fronted.boundaryWork (h : Fronted s) : Fronted s.boundaryWork :=
  boundaryWork_keeps (P := Fronted) (fun h => h.of_changes (changes_count _)) (fun _ h => h.of_changes (changes_decideStaged _))
    (fun _ h => h.moves (moves_ageSeeking _)) (fun _ h => h.boundaryTrigger) h

theorem Fronted.boundary (h : Fronted s) : Fronted s.boundary := by
  unfold State.boundary
  split
  · next waiting =>
    have closed : s.sched.openSlot = none := by unfold Scheduler.openSlot; rw [waiting]
    exact Fronted.boundaryWork ⟨fun _ => h.closed closed, (fun _ e => nomatch e)⟩
  · next o running =>
    split
    · obtain ⟨rx, tx, beacon, deaf, dwell, guard, txon, apart, tier⟩ := h.opened o (by unfold Scheduler.openSlot; rw [running])
      refine Fronted.boundaryWork (fronted_of_open (o := { o with boundaryTaken := true }) rfl ?_)
      exact ⟨rx, tx, beacon, deaf, dwell, guard, txon, apart, tier⟩
    · exact h
  · exact h

/-! #### Requests and starts -/

/-- An off front end and no dwell suit a scheduler without an open slot. -/
theorem fronted_of_off (closed : t.sched.openSlot = none) (off : t.radio = Radio.off) (idle : ∀ d, t.scan.state ≠ .dwelling d) :
    Fronted t := ⟨fun _ => ⟨off, idle⟩, fun o e => by rw [closed] at e; cases e⟩

theorem Radio.Serves.retire {r : Radio} {st : ScanState} {o : OpenSlot} (h : r.Serves st o) (n : NbrIdx) : (r.retire n).Serves st o := by
  unfold Radio.retire
  split
  · exact h
  · next ctx held =>
    split
    · dsimp only
      split
      · exact (h.refit (d := { ctx with nbr := none, content := .nothing, ackset := none }) held rfl).release
      · exact h.refit held rfl
    · exact h

theorem Fronted.retireRequest (h : Fronted s) (index : Byte) : Fronted (s.retireRequest index) := by
  unfold State.retireRequest
  split
  · exact h.of_changes (changes_reply s _ _ _)
  · next n _ =>
    split
    · exact h.of_changes (changes_reply s _ _ _)
    · have emptied := (h.of_changes (changes_freeEntries s (hopsTo n))).of_changes (changes_discardQueue _ n)
      have stopped : Fronted (((s.freeEntries (hopsTo n)).discardQueue n).setRadio ((s.freeEntries (hopsTo n)).radio.retire n)) := by
        have same : ((s.freeEntries (hopsTo n)).discardQueue n).radio = (s.freeEntries (hopsTo n)).radio :=
          changes_discardQueue _ n .radio rfl
        rw [← same]
        refine emptied.of_radio (changes_setRadio _ _) (fun o _ serves => serves.retire n) fun off => ?_
        show Radio.retire _ n = _
        rw [off]
        rfl
      have cleared : Fronted (s.retiring n) := by
        unfold State.retiring
        dsimp only
        split
        · exact stopped.of_changes (changes_setSync _ none)
        · exact stopped
      have vacated : Fronted (s.retire n) :=
        (cleared.of_changes (changes_setNbr _ n Nbr.vacant)).of_changes (changes_post _ _ _ _)
      exact vacated.of_changes (changes_reply _ _ _ _)

theorem Fronted.confirm (h : Fronted s) (index : Byte) : Fronted (s.confirm index) := by
  unfold State.confirm
  split
  · exact h.of_changes (changes_reply s _ _ _)
  · split
    · next held => exact (h.moves (moves_confirm held)).of_changes (changes_reply _ _ _ _)
    · exact h.of_changes (changes_reply s _ _ _)

theorem Fronted.frameSend (h : Fronted s) (dest : Half) (cls hops : Byte) (payload : List Byte) :
    Fronted (s.frameSend dest cls hops payload) := by
  obtain ⟨t, reply, run, e⟩ := travels_frameSend s dest cls hops payload
  rw [e]
  exact (h.travels run).of_same rfl rfl fun d e => ⟨d, e⟩

theorem Scheduler.openSlot_of_stopped {c : Scheduler} (h : ¬ c.isRunning = true) : c.openSlot = none := by
  by_contra some_
  obtain ⟨o, open_⟩ := Option.ne_none_iff_exists'.1 some_
  exact h (Scheduler.isRunning_of_openSlot open_)

theorem Fronted.scheduleStart (h : Fronted s) : Fronted s.scheduleStart := by
  unfold State.scheduleStart
  split
  · exact h.of_changes (changes_reply s _ _ _)
  · next stopped =>
    dsimp only
    split
    · obtain ⟨off, idle⟩ := h.closed (Scheduler.openSlot_of_stopped stopped)
      exact fronted_of_off rfl off idle
    · exact h.of_changes (changes_reply s _ _ _)

theorem ScanState.stopped_ne_dwelling (st : ScanState) (d : Dwell) : st.stopped ≠ .dwelling d := by
  unfold ScanState.stopped
  split
  · exact fun e => nomatch e
  · next undwelt => exact undwelt d

theorem Fronted.scheduleStop (h : Fronted s) : Fronted s.scheduleStop := by
  unfold State.scheduleStop
  dsimp only
  split
  · exact fronted_of_off rfl rfl (ScanState.stopped_ne_dwelling _)
  · exact h.of_changes (changes_reply s _ _ _)

theorem Fronted.scanHalt (h : Fronted s) : Fronted s.scanHalt := by
  refine h.undwell (changes_scanHalt s) ⟨(fun _ e => nomatch e), ?_⟩
  unfold State.scanHalt
  dsimp only
  split
  · next d dwelling => exact .inr ⟨⟨d, dwelling⟩, rfl⟩
  · exact .inl rfl

theorem Fronted.beginStart (cause : StartCause) : Fronted (s.beginStart cause) := fronted_of_off rfl rfl (fun _ e => nomatch e)

theorem Fronted.restartRequest (h : Fronted s) (form : Byte) : Fronted (s.restartRequest form) := by
  unfold State.restartRequest
  split
  · exact Fronted.beginStart _
  · exact fronted_of_off rfl rfl (fun _ e => nomatch e)
  · exact h.of_changes (changes_reply s _ _ _)

theorem Fronted.resetAssert (h : Fronted s) : Fronted s.resetAssert := by
  unfold State.resetAssert
  dsimp only
  split
  · exact h.of_same rfl rfl fun d e => ⟨d, e⟩
  · exact Fronted.beginStart _

theorem Fronted.completeStart (h : Fronted s) : Fronted s.completeStart := by
  unfold State.completeStart
  split
  · exact h
  · exact fronted_of_off rfl rfl (fun _ e => nomatch e)

/-- What an assertion of SUPPLY-LOW cuts leaves the front end to its slot (R110, R114, R169). -/
theorem Radio.Serves.cut {r : Radio} {st : ScanState} {o : OpenSlot} (h : r.Serves st o) : r.cut.Serves st o := by
  have silenced : ∀ {r : Radio}, r.Serves st o → Radio.Serves { r with beacon := none } st o := fun h =>
    ⟨h.rx, h.tx, (fun e => absurd rfl e), h.deaf, h.dwell, h.guard, h.txon, h.apart, h.tier⟩
  have aborted : ∀ {r : Radio}, r.Serves st o → Radio.Serves { r with tx := none } st o := fun h =>
    ⟨h.rx, (fun _ e => nomatch e), h.beacon, h.deaf, h.dwell, h.guard, h.txon, h.apart, h.tier⟩
  unfold Radio.cut
  cases r.onAir with
  | none =>
    dsimp only
    split
    · exact silenced h
    · split
      · exact aborted (silenced h)
      · exact silenced h
  | some air =>
    have released := h.release
    dsimp only
    split
    · exact silenced released
    · split
      · exact aborted (silenced released)
      · exact silenced released

theorem Fronted.supplyAssert (h : Fronted s) : Fronted s.supplyAssert := by
  unfold State.supplyAssert
  split
  · exact h.of_same rfl rfl fun d e => ⟨d, e⟩
  · have cut : Fronted (s.setRadio s.radio.cut) := by
      refine h.of_radio (changes_setRadio s _) (fun o _ serves => serves.cut) fun off => ?_
      show s.radio.cut = _
      rw [off]
      rfl
    exact cut.of_same rfl rfl fun d e => ⟨d, e⟩

theorem Fronted.consume (h : Fronted s) (item : Item) (c : Carry) : Fronted (s.consume item c) := by
  cases item with
  | reply => exact h.of_same rfl rfl fun d e => ⟨d, e⟩
  | notice src =>
    have taken : Fronted (s.setLink { s.link with notices := consumeNotice src c s.link.notices }) :=
      h.of_same rfl rfl fun d e => ⟨d, e⟩
    unfold State.consume
    dsimp only
    split
    · unfold State.releaseScanner
      split
      · exact taken.of_same rfl rfl fun d e => nomatch e
      · exact taken
    · exact taken
  | frame j => exact h.of_changes (changes_takeDelivered s j)
  | empty => exact h

theorem Fronted.completeRead (h : Fronted s) : Fronted s.completeRead := by
  unfold State.completeRead
  split
  · exact (h.consume _ _).of_changes (changes_setPhase _ _)
  · exact h

theorem Fronted.exec (h : Fronted s) {c : Instr} (next : exec c s = .next t) : Fronted t := by
  have asked : ∀ {owner}, work c = .request owner → (∀ u, Fronted u → Fronted (owner u)) → Fronted t :=
    fun hc done => request_keeps next hc (fun h => h.of_changes (changes_setPhase s .spent)) done h
  cases c with
  | readCompletion => exact exec_event next rfl ▸ h.completeRead
  | neighbourRetire index => exact asked rfl fun _ h => h.retireRequest index
  | neighbourConfirm index => exact asked rfl fun _ h => h.confirm index
  | frameSend dest cls hops payload => exact asked rfl fun _ h => h.frameSend dest cls hops payload
  | scheduleStart => exact asked rfl fun _ h => h.scheduleStart
  | scheduleStop => exact asked rfl fun _ h => h.scheduleStop
  | scanStart => exact asked rfl fun _ h => h.trigger.of_changes (changes_reply _ _ _ _)
  | scanHalt => exact asked rfl fun _ h => h.scanHalt
  | restartWarm => exact asked rfl fun _ h => h.restartRequest 1
  | restartCold => exact asked rfl fun _ h => h.restartRequest 0
  | restartRange form => exact asked rfl fun _ h => h.restartRequest form
  | powerOn => exact exec_event next rfl ▸ Fronted.beginStart _
  | reset => exact exec_event next rfl ▸ h.resetAssert
  | coldStartCompletion => exact exec_event next rfl ▸ h.completeStart
  | supplyLowAssertion => exact exec_event next rfl ▸ h.supplyAssert
  | slotStart => exact exec_event next rfl ▸ h.slotStart
  | bodyStart => exact exec_event next rfl ▸ h.bodyStart
  | burstEnd => exact exec_event next rfl ▸ h.endBurst
  | beaconEnd => exact exec_event next rfl ▸ h.endAir .beacon
  | acksetEnd => exact exec_event next rfl ▸ h.endAir .ackset
  | quietCode code => exact exec_event next rfl ▸ h.takeQuiet code
  | tailStart => exact exec_event next rfl ▸ h.tailStart
  | rxFrameArrival bytes code => exact exec_event next rfl ▸ h.travels (travels_rxArrival s bytes code)
  | acksetArrival bytes code => exact exec_event next rfl ▸ h.txArrival bytes code
  | dwellFrameArrival bytes code time => exact exec_event next rfl ▸ h.dwellArrival bytes code time
  | slotEnd => exact exec_event next rfl ▸ h.slotEnd
  | superframeBoundary => exact exec_event next rfl ▸ h.boundary
  | _ => exact h.of_changes (changes_exec next) rfl rfl rfl

end

end Sys2Proof.Machine
end

section
/-! The scanner under every command: WAITING in STEP mode only, PAUSED while its notice is pending, DWELLING while it is not
(R137, R140, R141, R143, R145). -/

namespace Sys2Proof.Machine

open Sys2Proof

section
variable {s t : State}

/-- What a dwell has kept is what it counted, within the widths (R141, R143). -/
def Dwell.Tallied (d : Dwell) : Prop :=
  d.beacons.length ≤ 16 ∧ d.beacons.length ≤ d.heard ∧ d.heard ≤ 255 ∧ d.failed ≤ 255 ∧ d.other ≤ 255

/-- The law of the scanner, state by state (R137, R140, R141). -/
structure Scanned (s : State) : Prop where
  waiting : ∀ a b, s.scan.state = .waiting a b → s.scan.settings.mode = .step
  paused : ∀ a, s.scan.state = .paused a → s.isPending .scanner = true
  dwelling : ∀ d, s.scan.state = .dwelling d → s.isPending .scanner = false ∧ d.Tallied

theorem scannerLaw_iff : ScannerLaw s ↔ Scanned s :=
  ⟨fun ⟨waiting, paused, dwelling⟩ => ⟨waiting, paused, dwelling⟩, fun h => ⟨h.waiting, h.paused, h.dwelling⟩⟩

theorem Scanned.of_same (h : Scanned s) (state : t.scan.state = s.scan.state) (mode : t.scan.settings.mode = s.scan.settings.mode)
    (pending : t.isPending .scanner = s.isPending .scanner) : Scanned t := by
  obtain ⟨waiting, paused, dwelling⟩ := h
  exact ⟨fun a b e => mode.trans (waiting a b (state.symm.trans e)), fun a e => pending.trans (paused a (state.symm.trans e)),
    fun d e => ⟨pending.trans (dwelling d (state.symm.trans e)).1, (dwelling d (state.symm.trans e)).2⟩⟩

theorem Scanned.of_changes {ps : List Piece} (h : Scanned s) (k : Changes ps s t) (state : ps.contains .scanState = false := by rfl)
    (settings : ps.contains .scanSettings = false := by rfl) (notices : ps.contains .notices = false := by rfl) : Scanned t :=
  h.of_same (k .scanState state) (congrArg ScanSettings.mode (k .scanSettings settings))
    (congrArg (fun set : List Notice => set.any fun n => n.source == .scanner) (k .notices notices))

/-- An IDLE or ARMED scanner has nothing to keep. -/
theorem scanned_of_idle (h : t.scan.state = .idle) : Scanned t :=
  ⟨fun _ _ e => absurd (h.symm.trans e) (fun e => nomatch e), fun _ e => absurd (h.symm.trans e) (fun e => nomatch e),
    fun _ e => absurd (h.symm.trans e) (fun e => nomatch e)⟩

theorem scanned_of_armed {sec : Sector} (h : t.scan.state = .armed sec) : Scanned t :=
  ⟨fun _ _ e => absurd (h.symm.trans e) (fun e => nomatch e), fun _ e => absurd (h.symm.trans e) (fun e => nomatch e),
    fun _ e => absurd (h.symm.trans e) (fun e => nomatch e)⟩

/-- The state that follows a dwell: IDLE, ARMED, or WAITING in STEP mode (R144). -/
theorem scanned_of_next {sec : Sector} (h : t.scan.state = t.scan.settings.nextState sec) : Scanned t := by
  unfold ScanSettings.nextState at h
  split at h
  · split at h
    · exact scanned_of_idle h
    · exact scanned_of_armed h
  · split at h
    · exact scanned_of_idle h
    · exact scanned_of_armed h
  · split at h
    · exact scanned_of_armed h
    · exact scanned_of_armed h
  · next step =>
    exact ⟨fun _ _ _ => step, fun _ e => absurd (h.symm.trans e) (fun e => nomatch e),
      fun _ e => absurd (h.symm.trans e) (fun e => nomatch e)⟩

/-- A posting of another source leaves the scanner's notice as it is. -/
theorem State.isPending_post_other (s : State) {src src' : Source} (other : src ≠ src') (content : NoticeContent)
    (rescue : Option Rescue) : (s.post src content rescue).isPending src' = s.isPending src' := by
  unfold State.isPending
  refine Bool.eq_iff_iff.2 ?_
  simp only [List.any_eq_true, beq_iff_eq]
  have sources : (s.post src content rescue).link.notices.map (·.source) = _ := postInto_sources src content rescue s.link.notices
  have listed : ∀ l : List Notice, (∃ n ∈ l, n.source = src') ↔ src' ∈ l.map (·.source) := fun l => by simp
  rw [listed, listed, sources]
  split
  · exact Iff.rfl
  · simp [Ne.symm other]

theorem Scanned.post (h : Scanned s) {src : Source} (content : NoticeContent) (rescue : Option Rescue)
    (other : src ≠ .scanner := by simp) : Scanned (s.post src content rescue) :=
  h.of_same rfl rfl (s.isPending_post_other other content rescue)

theorem Scanned.reply (h : Scanned s) (k : Byte) (c : ResultCode) (b : ReplyBody) : Scanned (s.reply k c b) :=
  h.of_changes (changes_reply s k c b)

theorem Scanned.trigger (h : Scanned s) : Scanned s.trigger.1 := by
  obtain e | ⟨sec, e, -⟩ | e := s.trigger_cases <;> rw [e]
  · refine scanned_of_armed (sec := s.scan.settings.start) ?_
    unfold State.restartScan
    split <;> rfl
  · exact scanned_of_armed rfl
  · exact h.of_same rfl rfl rfl

theorem Scanned.lossTrigger (h : Scanned s) : Scanned s.lossTrigger := by
  unfold State.lossTrigger
  split
  · exact h.trigger
  · exact h

theorem Scanned.boundaryTrigger (h : Scanned s) : Scanned s.boundaryTrigger := by
  unfold State.boundaryTrigger
  split
  · exact h.trigger
  · exact h

theorem Scanned.changeState (h : Scanned s) (n : NbrIdx) (new : LinkState) (cause : LinkCause) :
    Scanned (s.changeState n new cause) := by
  have parked := (h.of_changes (changes_setNbr s n { (s.nbr n).clearRuns with state := new })).of_changes
    (changes_parkFor _ n (s.nbr n).state new)
  unfold State.changeState State.afterChange
  dsimp only
  split
  · exact (parked.of_changes (changes_rescue _ n)).lossTrigger.post _ _
  · exact parked.post _ _

theorem Scanned.judgeDrift (h : Scanned s) (d : Int) : Scanned (s.judgeDrift d) := by
  have withDrift : ∀ f, Scanned (s.setSched (s.sched.withDrift f)) := fun f => h.of_same rfl rfl rfl
  unfold State.judgeDrift
  split
  · exact (withDrift true).post _ _
  · split
    · exact (withDrift false).post _ _
    · exact h

theorem Scanned.measure (h : Scanned s) (b : HeardBeacon) : Scanned (s.measure b) := by
  unfold State.measure
  split
  · exact h
  · split
    · have measured : Scanned (s.setSched { s.sched with pendingD := some (alignmentD s.sched.slotLen b),
                                                         lastD := some (alignmentD s.sched.slotLen b) }) := h.of_same rfl rfl rfl
      exact measured.judgeDrift _
    · exact h

theorem Scanned.move (h : Scanned s) (k : Move s t) : Scanned t := by
  cases k with
  | revise n _ => exact h.of_changes (changes_setNbr s n _)
  | change n new cause _ _ _ => exact h.changeState n new cause
  | tell n cause => exact h.post _ _
  | grow => exact h.of_changes (ps := [.nbrs]) fun p hp => by cases p <;> cases hp <;> rfl
  | measure b => exact h.measure b

theorem Scanned.moves (h : Scanned s) (run : Moves s t) : Scanned t := run_keeps (P := Scanned) (fun _ _ => Scanned.move) h run

/-! ### Slots -/

theorem Scanned.openTx (h : Scanned s) (n : NbrIdx) : Scanned (s.openTx n) := by
  have chosen : ∀ cost, Scanned (s.selectFrames n cost).1 := fun cost =>
    (h.of_changes (changes_dropOversize s cost (slotBody s.sched.slotLen) (s.queue n))).of_changes (changes_setQueue _ n _)
  unfold State.openTx
  dsimp only
  split
  · split
    · exact h.of_changes (changes_setRadio s _)
    · split
      · exact (chosen _).of_changes (changes_setRadio _ _)
      · exact (chosen _).of_changes (changes_setRadio _ _)
  · exact h

theorem Scanned.openRx (h : Scanned s) (n : NbrIdx) : Scanned (s.openRx n) := by
  unfold State.openRx
  dsimp only
  split
  · exact h.of_changes (changes_setRadio s _)
  · exact h

theorem Scanned.openBeacon (h : Scanned s) (sec : Sector) : Scanned (s.openBeacon sec) := by
  unfold State.openBeacon
  split
  · exact h.of_changes (changes_setRadio s _)
  · exact h

/-- An ARMED scanner pauses where its notice is pending and begins an empty dwell where it is not (R140, R141). -/
theorem Scanned.openScan (h : Scanned s) (i : SlotIdx) : Scanned (s.openScan i) := by
  unfold State.openScan
  split
  · split
    · next pending => exact ⟨(fun _ _ e => nomatch e), fun _ _ => pending, (fun _ e => nomatch e)⟩
    · next clear =>
      refine ⟨(fun _ _ e => nomatch e), (fun _ e => nomatch e), fun d e => ⟨eq_false_of_ne_true clear, ?_⟩⟩
      rw [← ScanState.dwelling.inj e]
      exact ⟨Nat.zero_le _, Nat.zero_le _, Nat.zero_le _, Nat.zero_le _, Nat.zero_le _⟩
  · exact h

theorem Scanned.slotStart (h : Scanned s) : Scanned s.slotStart := by
  unfold State.slotStart
  split
  · next i _ =>
    have started : Scanned (s.setSched (s.sched.startSlot i)) := h.of_same rfl rfl rfl
    unfold State.openOwner
    split
    · exact started
    · exact started.openTx _
    · exact started.openRx _
    · exact started.openBeacon _
    · exact started.openScan i
  · exact h

theorem Scanned.takeQuiet (h : Scanned s) (code : Code) : Scanned (s.takeQuiet code) := by
  unfold State.takeQuiet
  split
  · next d dwelling =>
    split
    · obtain ⟨clear, tallied⟩ := h.dwelling d dwelling
      refine ⟨(fun _ _ e => nomatch e), (fun _ e => nomatch e), fun d' e => ⟨clear, ?_⟩⟩
      rw [← ScanState.dwelling.inj e]
      exact tallied
    · exact h
  · exact h

theorem Dwell.Tallied.hear {d : Dwell} (h : d.Tallied) (bytes : List Byte) (code : Code) (time : Nat) :
    (d.hear bytes code time).Tallied := by
  obtain ⟨few, counted, heard, failed, other⟩ := h
  unfold Dwell.hear
  split
  · exact ⟨few, counted, heard, bump_le _ _, other⟩
  · dsimp only
    refine ⟨?_, ?_, bump_le _ _, failed, other⟩
    · dsimp only
      split
      · rw [List.length_append, List.length_singleton]
        omega
      · exact few
    · dsimp only
      have raised : bump 255 d.heard = min 255 (d.heard + 1) := rfl
      split
      · rw [List.length_append, List.length_singleton, raised]
        omega
      · omega
  · exact ⟨few, counted, heard, failed, bump_le _ _⟩

theorem Scanned.dwellArrival (h : Scanned s) (bytes : List Byte) (code : Code) (time : Nat) :
    Scanned (s.dwellArrival bytes code time) := by
  unfold State.dwellArrival
  split
  · next d _ dwelling _ =>
    split
    · exact h
    · obtain ⟨clear, tallied⟩ := h.dwelling d dwelling
      refine ⟨(fun _ _ e => nomatch e), (fun _ e => nomatch e), fun d' e => ⟨clear, ?_⟩⟩
      rw [← ScanState.dwelling.inj e]
      exact tallied.hear bytes code time
  · exact h

theorem State.scanSettings_dwellEnd (s : State) (d : Dwell) : (s.dwellEnd d).scan.settings = s.scan.settings :=
  changes_dwellEnd s d .scanSettings rfl

theorem State.scanState_dwellEnd (s : State) (d : Dwell) : (s.dwellEnd d).scan.state = s.scan.settings.nextState d.sector := by
  have kept : (s.writeFloor d.sector d.quiet).scan.settings = s.scan.settings := changes_writeFloor s _ _ .scanSettings rfl
  rw [← kept]
  rfl

theorem Scanned.dwellEnd (d : Dwell) : Scanned (s.dwellEnd d) :=
  scanned_of_next ((s.scanState_dwellEnd d).trans (congrArg (ScanSettings.nextState · d.sector) (s.scanSettings_dwellEnd d).symm))

theorem Scanned.endOwner (h : Scanned s) (kind : SlotKind) : Scanned (s.endOwner kind) := by
  unfold State.endOwner
  split
  · exact h
  · exact h
  · split
    · exact txEnd_keeps (P := Scanned) (fun _ _ => Scanned.move) h fun n set list _ _ => h.of_changes (changes_settle s n set list)
    · exact h
  · split
    · exact h.moves (moves_rxEnd s _)
    · exact h
  · split
    · exact Scanned.dwellEnd _
    · exact h

theorem Scanned.slotEnd (h : Scanned s) : Scanned s.slotEnd := by
  unfold State.slotEnd
  split
  · exact h
  · next o _ =>
    exact ((h.endOwner o.kind).of_changes (changes_setRadio _ Radio.off)).of_changes (changes_progressTo _ o.after)

theorem Scanned.boundary (h : Scanned s) : Scanned s.boundary :=
  boundary_keeps (P := Scanned) (fun _ p h _ => h.of_changes (changes_progressTo _ p)) (fun _ h => h.of_changes (changes_count _))
    (fun _ h => h.of_changes (changes_decideStaged _)) (fun _ h => h.moves (moves_ageSeeking _)) (fun _ h => h.boundaryTrigger) h

/-! ### Requests, reads and starts -/

theorem Scanned.enrol (h : Scanned s) (index : Byte) (nodeId : Half) (hint cap : Byte) : Scanned (s.enrol index nodeId hint cap) := by
  unfold State.enrol
  split
  · split
    · split
      · exact (((h.of_changes (changes_setNbr s _ _)).of_changes (changes_setQueue _ _ [])).post _ _).reply _ _ _
      · exact h.reply _ _ _
    · exact h.reply _ _ _
  · exact h.reply _ _ _

theorem Scanned.setSync (h : Scanned s) (k : Option NbrIdx) : Scanned (s.setSync k) := by
  have cleared : Scanned (s.setSched { s.sched.withDrift false with sync := k, pendingD := none, lastD := none }) :=
    h.of_same rfl rfl rfl
  unfold State.setSync
  dsimp only
  split
  · exact cleared.post _ _
  · exact cleared

theorem Scanned.timingSet (h : Scanned s) (index : Byte) : Scanned (s.timingSet index) := by
  unfold State.timingSet
  split
  · exact h.reply _ _ _
  · exact (h.setSync none).reply _ _ _
  · split
    · exact h.reply _ _ _
    · exact (h.setSync _).reply _ _ _

theorem Scanned.retireRequest (h : Scanned s) (index : Byte) : Scanned (s.retireRequest index) := by
  unfold State.retireRequest
  split
  · exact h.reply _ _ _
  · next n _ =>
    split
    · exact h.reply _ _ _
    · have quiet := ((h.of_changes (changes_freeEntries s (hopsTo n))).of_changes (changes_discardQueue _ n)).of_changes
        (changes_setRadio _ ((s.freeEntries (hopsTo n)).radio.retire n))
      have cleared : Scanned (s.retiring n) := by
        unfold State.retiring
        dsimp only
        split
        · exact quiet.setSync none
        · exact quiet
      have vacated : Scanned (s.retire n) := (cleared.of_changes (changes_setNbr _ n Nbr.vacant)).post _ _
      exact vacated.reply _ _ _

theorem Scanned.confirm (h : Scanned s) (index : Byte) : Scanned (s.confirm index) := by
  unfold State.confirm
  split
  · exact h.reply _ _ _
  · split
    · next held => exact (h.moves (moves_confirm held)).reply _ _ _
    · exact h.reply _ _ _

theorem Scanned.scanSet (h : Scanned s) (mode start stop b l : Byte) : Scanned (s.scanSet mode start stop b l) := by
  unfold State.scanSet
  split
  · exact h.reply _ _ _
  · split
    · next idle => exact scanned_of_idle idle
    · exact h.reply _ _ _

theorem Scanned.scheduleStop (h : Scanned s) : Scanned s.scheduleStop := by
  unfold State.scheduleStop
  dsimp only
  split
  · refine Scanned.reply ?_ _ _ _
    cases state : s.scan.state with
    | dwelling d => exact scanned_of_armed rfl
    | idle => exact h.of_same state.symm rfl rfl
    | armed _ => exact h.of_same state.symm rfl rfl
    | paused _ => exact h.of_same state.symm rfl rfl
    | waiting _ _ => exact h.of_same state.symm rfl rfl
  · exact h.reply _ _ _

theorem Scanned.restartRequest (h : Scanned s) (form : Byte) : Scanned (s.restartRequest form) := by
  unfold State.restartRequest
  split
  · exact scanned_of_idle rfl
  · exact scanned_of_idle rfl
  · exact h.reply _ _ _

theorem Scanned.resetAssert (h : Scanned s) : Scanned s.resetAssert := by
  unfold State.resetAssert
  dsimp only
  split
  · exact h.of_same rfl rfl rfl
  · exact scanned_of_idle rfl

theorem Scanned.completeStart (h : Scanned s) : Scanned s.completeStart := by
  unfold State.completeStart
  split
  · exact h
  · exact scanned_of_idle rfl

theorem Scanned.supplyAssert (h : Scanned s) : Scanned s.supplyAssert := by
  unfold State.supplyAssert
  split
  · exact h.of_same rfl rfl rfl
  · refine Scanned.post ?_ _ _
    exact h.of_same rfl rfl rfl

theorem Scanned.supplyRelease (h : Scanned s) : Scanned s.supplyRelease := by
  unfold State.supplyRelease
  split
  · exact h.of_same rfl rfl rfl
  · refine Scanned.post ?_ _ _
    exact h.of_same rfl rfl rfl

/-- The consumption of a notice leaves the notices of other sources pending or not. -/
theorem any_consumeNotice {src src' : Source} (other : src ≠ src') (c : Carry) (set : List Notice) :
    (consumeNotice src c set).any (fun n => n.source == src') = set.any fun n => n.source == src' := by
  have rest : (set.filter fun n => n.source != src).any (fun n => n.source == src') = set.any fun n => n.source == src' := by
    rw [List.any_filter]
    congr 1
    funext n
    by_cases e : n.source = src'
    · simp [e, Ne.symm other]
    · simp [e]
  unfold consumeNotice
  dsimp only
  split
  · exact rest
  · next m found =>
    have source : m.source = src := by simpa using List.find?_some found
    have fresh : ((freshNotice m c).source == src') = false := by simp [freshNotice, source, other]
    split
    · exact rest
    · rw [List.any_append, rest, List.any_cons, fresh]
      simp

/-- The consumption of a notice that is not pending adds none. -/
theorem any_consumeNotice_of_clear {src : Source} {set : List Notice} (clear : set.any (fun n => n.source == src) = false) (c : Carry) :
    (consumeNotice src c set).any (fun n => n.source == src) = false := by
  have missing : set.find? (fun n => n.source == src) = none := by
    simpa using clear
  unfold consumeNotice
  rw [missing]
  simp

theorem Scanned.consume (h : Scanned s) (item : Item) (c : Carry) : Scanned (s.consume item c) := by
  cases item with
  | reply => exact h.of_same rfl rfl rfl
  | frame j => exact h.of_changes (changes_takeDelivered s j)
  | empty => exact h
  | notice src =>
    unfold State.consume
    dsimp only
    split
    · next scanner =>
      subst scanner
      unfold State.releaseScanner
      split
      · exact scanned_of_armed rfl
      · next unpaused =>
        exact ⟨h.waiting, fun a e => absurd e (unpaused a), fun d e =>
          ⟨any_consumeNotice_of_clear (h.dwelling d e).1 c, (h.dwelling d e).2⟩⟩
    · next other => exact h.of_same rfl rfl (any_consumeNotice other c s.link.notices)

theorem Scanned.completeRead (h : Scanned s) : Scanned s.completeRead := by
  unfold State.completeRead
  split
  · exact (h.consume _ _).of_changes (changes_setPhase _ _)
  · exact h

theorem Scanned.exec (h : Scanned s) {c : Instr} (next : exec c s = .next t) : Scanned t := by
  have asked : ∀ {owner}, work c = .request owner → (∀ u, Scanned u → Scanned (owner u)) → Scanned t :=
    fun hc done => request_keeps next hc (fun h => h.of_changes (changes_setPhase s .spent)) done h
  cases c with
  | readCompletion => exact exec_event next rfl ▸ h.completeRead
  | neighbourEnrol index nodeId hint cap => exact asked rfl fun _ h => h.enrol index nodeId hint cap
  | neighbourRetire index => exact asked rfl fun _ h => h.retireRequest index
  | neighbourConfirm index => exact asked rfl fun _ h => h.confirm index
  | scheduleStop => exact asked rfl fun _ h => h.scheduleStop
  | timingSet index => exact asked rfl fun _ h => h.timingSet index
  | scanSet mode start stop b l => exact asked rfl fun _ h => h.scanSet mode start stop b l
  | scanStart => exact asked rfl fun _ h => h.trigger.reply _ _ _
  | scanHalt => exact asked rfl fun _ _ => scanned_of_idle rfl
  | restartWarm => exact asked rfl fun _ h => h.restartRequest 1
  | restartCold => exact asked rfl fun _ h => h.restartRequest 0
  | restartRange form => exact asked rfl fun _ h => h.restartRequest form
  | powerOn => exact exec_event next rfl ▸ scanned_of_idle rfl
  | reset => exact exec_event next rfl ▸ h.resetAssert
  | coldStartCompletion => exact exec_event next rfl ▸ h.completeStart
  | supplyLowAssertion => exact exec_event next rfl ▸ h.supplyAssert
  | supplyLowDeassertion => exact exec_event next rfl ▸ h.supplyRelease
  | slotStart => exact exec_event next rfl ▸ h.slotStart
  | quietCode code => exact exec_event next rfl ▸ h.takeQuiet code
  | dwellFrameArrival bytes code time => exact exec_event next rfl ▸ h.dwellArrival bytes code time
  | slotEnd => exact exec_event next rfl ▸ h.slotEnd
  | superframeBoundary => exact exec_event next rfl ▸ h.boundary
  | _ => exact h.of_changes (changes_exec next) rfl rfl rfl

end

end Sys2Proof.Machine

namespace Sys2Proof.Proofs

open Sys2Proof Sys2Proof.Machine

/-- Settles O60: holds, maps, corrections, front end and scanner are five laws, each kept by every command on its own. -/
theorem stepsKeepTheSchedule : Obligations.StepsKeepTheSchedule := by
  intro s t holds maps corrections frontEnd scanner next
  refine ⟨holdLaw_iff.2 ?_, mapLaw_iff.2 ?_, ?_, frontEndLaw_iff.2 ?_, scannerLaw_iff.2 ?_⟩
  · exact step_keeps (P := Held) (fun _ _ h => ⟨h.identity, h.supply, h.unsynced, h.legal⟩) (fun _ _ _ h next => h.exec next)
      (holdLaw_iff.1 holds) next
  · exact step_keeps (P := Mapped) (fun _ _ h => ⟨h.legal, h.valid, h.low, h.high, h.step⟩) (fun _ _ _ h next => h.exec next)
      (mapLaw_iff.1 maps) next
  · exact step_keeps (P := CorrectionLaw) (fun _ _ h => h) (fun _ _ _ h next => CorrectionLaw.exec h next) corrections next
  · exact step_keeps (P := Fronted) (fun _ _ h => ⟨h.closed, h.opened⟩) (fun _ _ _ h next => h.exec next)
      (frontEndLaw_iff.1 frontEnd) next
  · exact step_keeps (P := Scanned) (fun _ _ h => ⟨h.waiting, h.paused, h.dwelling⟩) (fun _ _ _ h next => h.exec next)
      (scannerLaw_iff.1 scanner) next

end Sys2Proof.Proofs
end

section
/-! Requests in general: each is answered by one reply of its kind, and a refusal is the reply alone (R154 to R157). -/

namespace Sys2Proof.Machine

open Sys2Proof

/-- The codes of a request that is refused: nothing has changed but the reply place (R155, R157). -/
def ResultCode.refuses : ResultCode → Bool
  | .format | .range | .state | .full | .mapfault => true
  | .ok | .parked | .queue | .nomatch | .noroute | .local | .discarded | .nobuf => false

/-- The rest of the transaction has no effect (R154, R160). -/
abbrev State.ended (s : State) : Prop := s.link.phase = .spent

/-- What a request of kind `k` leaves: a reply of that kind alone, or more than a reply, with a code that does not refuse. -/
inductive Served (k : Byte) (u : State) : State → Prop
  | only (c : ResultCode) (b : ReplyBody) : Served k u (u.reply k c b)
  | work {v : State} (c : ResultCode) (b : ReplyBody) (ended : v.ended) (accepts : c.refuses = false) : Served k u (v.reply k c b)

section
variable {s t : State}

theorem Served.answers {k : Byte} (h : Served k s t) (ended : s.ended) :
    t.link.phase = .spent ∧ ∃ code body, t.link.reply = some { kind := some k, code := code, body := body } := by
  cases h with
  | only c b => exact ⟨ended, c, b, rfl⟩
  | work c b ended' _ => exact ⟨ended', c, b, rfl⟩

/-- A refusal changes nothing but the reply place. -/
theorem Served.refusal {k : Byte} (h : Served k s t) {r : Reply} (reply : t.link.reply = some r) (refuses : r.code.refuses = true) :
    t = s.setLink { s.link with reply := some r } := by
  cases h with
  | only c b =>
    obtain rfl := Option.some.inj reply
    rfl
  | work c b _ accepts =>
    obtain rfl := Option.some.inj reply
    exact absurd (refuses.symm.trans accepts) (by decide)

theorem State.ended_of_changes {ps : List Piece} (h : s.ended) (k : Changes ps s t) (phase : ps.contains .phase = false := by rfl) :
    t.ended := Eq.trans (k .phase phase) h

/-- A posting leaves an ended transaction ended. -/
theorem State.ended_post (h : s.ended) (src : Source) (content : NoticeContent) (rescue : Option Rescue) :
    (s.post src content rescue).ended := by
  show carryPosting src rescue s.link.phase = .spent
  rw [h]
  rfl

theorem State.ended_changeState (h : s.ended) (n : NbrIdx) (new : LinkState) (cause : LinkCause) :
    (s.changeState n new cause).ended := by
  have parked := State.ended_of_changes (State.ended_of_changes h (changes_setNbr s n { (s.nbr n).clearRuns with state := new }))
    (changes_parkFor _ n (s.nbr n).state new)
  unfold State.changeState State.afterChange
  dsimp only
  split
  · exact State.ended_post (State.ended_of_changes (State.ended_of_changes parked (changes_rescue _ n)) (changes_lossTrigger _)) _ _ _
  · exact State.ended_post parked _ _ _

theorem State.ended_setSync (h : s.ended) (k : Option NbrIdx) : (s.setSync k).ended := by
  unfold State.setSync
  dsimp only
  split
  · exact State.ended_post (s := s.setSched _) h _ _ _
  · exact h

/-! ### The requests one by one -/

theorem served_linkSettings (h : s.ended) (wr : Byte) (c : CarriedSettings) : Served Kind.linkSettings s (s.linkSettings wr c) := by
  unfold State.linkSettings
  split
  · exact .only _ _
  · split
    · exact .work _ _ h rfl
    · exact .only _ _
  · exact .only _ _

theorem served_enrol (h : s.ended) (index : Byte) (nodeId : Half) (hint cap : Byte) :
    Served Kind.neighbourEnrol s (s.enrol index nodeId hint cap) := by
  unfold State.enrol
  split
  · split
    · split
      · exact .work _ _ (State.ended_post (s := (s.setNbr _ _).setQueue _ _) h _ _ _) rfl
      · exact .only _ _
    · exact .only _ _
  · exact .only _ _

theorem served_retire (h : s.ended) (index : Byte) : Served Kind.neighbourRetire s (s.retireRequest index) := by
  unfold State.retireRequest
  split
  · exact .only _ _
  · next n _ =>
    split
    · exact .only _ _
    · refine .work _ _ ?_ rfl
      have emptied := State.ended_of_changes (State.ended_of_changes h (changes_freeEntries s (hopsTo n))) (changes_discardQueue _ n)
      have freed := State.ended_of_changes emptied (changes_setRadio _ ((s.freeEntries (hopsTo n)).radio.retire n))
      have cleared : (s.retiring n).ended := by
        unfold State.retiring
        dsimp only
        split
        · exact State.ended_setSync freed none
        · exact freed
      exact State.ended_post (s := (s.retiring n).setNbr n Nbr.vacant) cleared _ _ _

theorem served_confirm (h : s.ended) (index : Byte) : Served Kind.neighbourConfirm s (s.confirm index) := by
  unfold State.confirm
  split
  · exact .only _ _
  · split
    · exact .work _ _ (State.ended_changeState (s := s.modNbr _ _) h _ _ _) rfl
    · exact .only _ _

theorem served_query (h : s.ended) (index clear : Byte) : Served Kind.neighbourQuery s (s.query index clear) := by
  unfold State.query
  split
  · next n c _ _ =>
    cases c
    · exact .only _ _
    · exact .work .ok _ (v := s.modNbr n fun r => { r with counters := NbrCounters.zero }) h rfl
  · exact .only _ _

theorem served_search (h : s.ended) (k : Byte) (p : Entry → Bool) : Served k s (s.search k p) := by
  unfold State.search
  split
  · exact .work _ _ (v := s.setLast _) h rfl
  · exact .work _ _ (v := s.setLast _) h rfl

theorem served_lookup (h : s.ended) (key : CarriedKey) : Served Kind.lookup s (s.lookupRequest key) := by
  unfold State.lookupRequest
  split
  · exact .only _ _
  · exact served_search h _ _

theorem served_findFree (h : s.ended) (any : Byte) : Served Kind.find s (s.findFreeRequest any) := by
  unfold State.findFreeRequest
  split
  · exact .only _ _
  · exact served_search h _ _

theorem served_find (h : s.ended) (st any : Byte) (key : CarriedKey) : Served Kind.find s (s.findRequest st any key) := by
  unfold State.findRequest
  split
  · exact served_findFree h any
  · exact served_search h _ _
  · split
    · exact served_search h _ _
    · exact .only _ _
  · exact .only _ _

theorem storedCode_accepts (r : Route) : (storedCode r).refuses = false := by
  unfold storedCode
  split <;> rfl

theorem served_storeRoute (h : s.ended) (k : Byte) (i : EntryIdx) (w : WantedEntry) : Served k s (s.storeRoute k i w) :=
  .work _ _ (v := s.setEntry i _) h (storedCode_accepts _)

theorem served_entryWrite (h : s.ended) (index : Half) (e : CarriedEntry) : Served Kind.entryWrite s (s.entryWrite index e) := by
  unfold State.entryWrite
  split
  · exact .only _ _
  · split
    · exact .only _ _
    · split
      · exact served_storeRoute h _ _ _
      · exact .only _ _

theorem served_entryPlace (h : s.ended) (e : CarriedEntry) : Served Kind.entryPlace s (s.entryPlace e) := by
  unfold State.entryPlace
  split
  · exact .only _ _
  · split
    · split
      · exact .only _ _
      · exact served_storeRoute h _ _ _
    · exact .only _ _

theorem served_entryRead (index : Half) : Served Kind.entryRead s (s.entryReadRequest index) := by
  unfold State.entryReadRequest
  split <;> exact .only _ _

theorem served_entryStateAt (h : s.ended) (i : EntryIdx) (target : TargetState) :
    Served Kind.entryState s (s.entryStateAt i target) := by
  unfold State.entryStateAt
  split
  · exact .work _ _ (v := s.setEntry i _) h rfl
  · exact .only _ _
  · exact .work _ _ (v := s.setEntry i _) h (storedCode_accepts _)
  · exact .work _ _ (v := s.setEntry i _) h rfl

theorem served_entryState (h : s.ended) (target : Half) (st : Byte) : Served Kind.entryState s (s.entryStateRequest target st) := by
  unfold State.entryStateRequest
  split
  · exact .only _ _
  · split
    · exact .only _ _
    · exact .only _ _
    · exact .only _ _
    · exact served_entryStateAt h _ _

theorem served_tableClear (h : s.ended) (scope : Byte) : Served Kind.tableClear s (s.tableClear scope) := by
  unfold State.tableClear
  split
  · exact .only _ _
  · next sc _ =>
    refine .work _ _ (v := s.clearTable sc) ?_ rfl
    cases sc <;> exact h

theorem served_maskSet (h : s.ended) (profile : Byte) (ignore : Half) (c g : Byte) :
    Served Kind.maskSet s (s.maskSet profile ignore c g) := by
  unfold State.maskSet
  split
  · exact .work _ _ (v := s.setPath _) h rfl
  · exact .only _ _

theorem served_maskSelect (h : s.ended) (profile : Byte) : Served Kind.maskSelect s (s.maskSelect profile) := by
  unfold State.maskSelect
  split
  · exact .work _ _ (v := s.setPath _) h rfl
  · exact .only _ _

/-- Past its checks FRAME SEND answers with a code that does not refuse: what it drops or does not queue is no refusal (R75). -/
theorem served_sendFrame (h : s.ended) (dest : BitVec 12) (cls : BitVec 3) (hops : BitVec 4) (payload : List Byte) :
    Served Kind.frameSend s (s.sendFrame dest cls hops payload) := by
  have looked := State.ended_of_changes h (changes_frameLookup s { dest := dest, cls := cls, ing := .host })
  unfold State.sendFrame
  dsimp only
  split
  · exact .work _ _ looked rfl
  · split
    · exact .work _ _ (State.ended_of_changes looked (changes_countDiscard _ _)) rfl
    · exact .work _ _ looked rfl
    · split
      · split
        · exact .work _ _ looked rfl
        · exact .work _ _ (State.ended_of_changes (State.ended_of_changes looked (changes_allocate _ _ _ _ _ _ _))
            (changes_appendQueue _ _ _)) rfl
      · exact .work _ _ looked rfl

theorem served_frameSend (h : s.ended) (dest : Half) (cls hops : Byte) (payload : List Byte) :
    Served Kind.frameSend s (s.frameSend dest cls hops payload) := by
  unfold State.frameSend
  split
  · exact .only _ _
  · split
    · split
      · exact .only _ _
      · split
        · exact .only _ _
        · exact served_sendFrame h _ _ _ _
    · exact .only _ _

theorem served_counters (h : s.ended) (clear : Byte) : Served Kind.counters s (s.countersRequest clear) := by
  unfold State.countersRequest
  split
  · exact .only _ _
  · next c _ =>
    cases c
    · exact .only _ _
    · exact .work _ _ (v := s.clearCounters) h rfl

theorem served_slotLength (h : s.ended) (v : Half) : Served Kind.slotLength s (s.setSlotLength v) := by
  unfold State.setSlotLength
  split
  · exact .only _ _
  · exact .work _ _ (v := s.setSched _) h rfl

theorem served_mapWrite (h : s.ended) (map first has : Byte) (check : Half) (codes : List Half) :
    Served Kind.mapWrite s (s.mapWrite map first has check codes) := by
  unfold State.mapWrite
  split
  · exact .only _ _
  · split
    · split
      · split
        · exact .only _ _
        · exact .work _ _ (v := s.setSched _) h rfl
      · exact .only _ _
    · exact .only _ _

theorem served_mapRead (map : Byte) : Served Kind.mapRead s (s.mapReadRequest map) := by
  unfold State.mapReadRequest
  split <;> exact .only _ _

/-- While STOPPED a MAP SWITCH is decided at once (R124). -/
theorem served_mapSwitch (h : s.ended) (stopped : ¬ s.sched.isRunning = true) : Served Kind.mapSwitch s s.mapSwitchRequest := by
  unfold State.mapSwitchRequest
  rw [if_neg stopped]
  dsimp only
  split
  · exact .work _ _ (v := s.setSched _) h rfl
  · exact .only _ _

theorem served_scheduleStart (h : s.ended) : Served Kind.scheduleStart s s.scheduleStart := by
  unfold State.scheduleStart
  split
  · exact .only _ _
  · dsimp only
    split
    · exact .work _ _ (v := s.setSched _) h rfl
    · exact .only _ _

theorem served_scheduleStop (h : s.ended) : Served Kind.scheduleStop s s.scheduleStop := by
  unfold State.scheduleStop
  refine .work _ _ ?_ rfl
  split <;> exact h

theorem served_timingSet (h : s.ended) (index : Byte) : Served Kind.timingSet s (s.timingSet index) := by
  unfold State.timingSet
  split
  · exact .only _ _
  · exact .work _ _ (State.ended_setSync h none) rfl
  · split
    · exact .only _ _
    · exact .work _ _ (State.ended_setSync h _) rfl

theorem served_scanSet (h : s.ended) (mode start stop b l : Byte) : Served Kind.scanSet s (s.scanSet mode start stop b l) := by
  unfold State.scanSet
  split
  · exact .only _ _
  · split
    · exact .work _ _ (v := s.setScan _) h rfl
    · exact .only _ _

theorem served_scanStart (h : s.ended) : Served Kind.scanStart s s.scanStart :=
  .work _ _ (State.ended_of_changes h (changes_trigger s)) rfl

theorem served_scanHalt (h : s.ended) : Served Kind.scanHalt s s.scanHalt := by
  unfold State.scanHalt
  refine .work _ _ ?_ rfl
  dsimp only
  split <;> exact h

theorem served_identify (h : s.ended) (nodeId : Half) (epoch : Byte) : Served Kind.identify s (s.identifyRequest nodeId epoch) := by
  unfold State.identifyRequest
  split
  · split
    · exact .work _ _ (v := s.setIdentity _) h rfl
    · exact .only _ _
  · exact .only _ _

theorem served_status (h : s.ended) : Served Kind.status s s.statusRequest := .work _ _ (v := s.setPart _) h rfl

/-- A form other than COLD is answered (R173). -/
theorem served_restart (h : s.ended) {form : Byte} (notCold : form ≠ 0) : Served Kind.restart s (s.restartRequest form) := by
  unfold State.restartRequest
  split
  · next zero => exact absurd (BitVec.eq_of_toNat_eq zero) notCold
  · exact .work _ _ h rfl
  · exact .only _ _

theorem served_malformed {kind : Option Byte} {len : Option Half} {taken : Half} {r : Reply} (empty : s.link.reply = none)
    (reply : (s.malformed kind len taken).link.reply = some r) :
    s.malformed kind len taken = s.setLink { s.link with reply := some r } := by
  unfold State.malformed at reply ⊢
  split at reply
  · obtain rfl := Option.some.inj reply
    rfl
  · rw [empty] at reply
    cases reply

/-- A request is taken on a state in which the transaction has ended. -/
theorem State.ended_setPhase (s : State) : (s.setPhase .spent).ended := rfl

/-- A request other than a MAP SWITCH while RUNNING and a RESTART COLD is served (R125, R156, R172). -/
theorem exec_served {c : Instr} {k : Byte} (kind : requestKind c = some k) (accepting : s.accepting) (next : exec c s = .next t)
    (decided : ¬ (c = .mapSwitch ∧ s.sched.isRunning = true)) (warm : ¬ (c = .restartCold ∨ c = .restartRange 0)) :
    Served k (s.setPhase .spent) t := by
  have ended := s.ended_setPhase
  have by_ : ∀ {owner k'}, work c = .request owner → requestKind c = some k' →
      Served k' (s.setPhase .spent) (owner (s.setPhase .spent)) → Served k (s.setPhase .spent) t := fun hc kind' served => by
    obtain rfl := Option.some.inj (kind.symm.trans kind')
    obtain ⟨lost, -⟩ | ⟨-, rfl⟩ := exec_request next hc
    · exact absurd accepting lost
    · exact served
  cases c with
  | linkSettings wr c => exact by_ rfl rfl (served_linkSettings ended wr c)
  | neighbourEnrol i n h' cap => exact by_ rfl rfl (served_enrol ended i n h' cap)
  | neighbourRetire i => exact by_ rfl rfl (served_retire ended i)
  | neighbourConfirm i => exact by_ rfl rfl (served_confirm ended i)
  | neighbourQuery i c => exact by_ rfl rfl (served_query ended i c)
  | lookup key => exact by_ rfl rfl (served_lookup ended key)
  | find st any key => exact by_ rfl rfl (served_find ended st any key)
  | findFree any key => exact by_ rfl rfl (served_findFree ended any)
  | entryWrite i e => exact by_ rfl rfl (served_entryWrite ended i e)
  | entryPlace e => exact by_ rfl rfl (served_entryPlace ended e)
  | entryRead i => exact by_ rfl rfl (served_entryRead i)
  | entryState i st => exact by_ rfl rfl (served_entryState ended i st)
  | tableClear sc => exact by_ rfl rfl (served_tableClear ended sc)
  | maskSet p i c g => exact by_ rfl rfl (served_maskSet ended p i c g)
  | maskSelect p => exact by_ rfl rfl (served_maskSelect ended p)
  | frameSend d c h' p => exact by_ rfl rfl (served_frameSend ended d c h' p)
  | counters c => exact by_ rfl rfl (served_counters ended c)
  | slotLength v => exact by_ rfl rfl (served_slotLength ended v)
  | mapWrite m f p check codes => exact by_ rfl rfl (served_mapWrite ended m f p check codes)
  | mapRead m => exact by_ rfl rfl (served_mapRead m)
  | mapSwitch => exact by_ rfl rfl (served_mapSwitch ended fun running => decided ⟨rfl, running⟩)
  | scheduleStart => exact by_ rfl rfl (served_scheduleStart ended)
  | scheduleStop => exact by_ rfl rfl (served_scheduleStop ended)
  | timingSet i => exact by_ rfl rfl (served_timingSet ended i)
  | scanSet m a b x y => exact by_ rfl rfl (served_scanSet ended m a b x y)
  | scanStart => exact by_ rfl rfl (served_scanStart ended)
  | scanHalt => exact by_ rfl rfl (served_scanHalt ended)
  | identify n e => exact by_ rfl rfl (served_identify ended n e)
  | status => exact by_ rfl rfl (served_status ended)
  | restartWarm => exact by_ rfl rfl (served_restart ended (form := 1) (by decide))
  | restartCold => exact absurd (.inl rfl) warm
  | restartRange form => exact by_ rfl rfl (served_restart ended fun zero => warm (.inr (zero ▸ rfl)))
  | _ => cases kind

/-- A request and a malformed record are taken at write completion. -/
theorem work_of_record {c : Instr} (h : requestKind c ≠ none ∨ ∃ kind len taken, c = .malformedRecord kind len taken) :
    ∃ owner, work c = .request owner := by
  obtain h | ⟨kind, len, taken, rfl⟩ := h
  · cases c <;> first | exact ⟨_, rfl⟩ | exact absurd rfl h
  · exact ⟨_, rfl⟩

theorem exec_lost {c : Instr} {owner : State → State} (hc : work c = .request owner) (lost : ¬ s.accepting) : exec c s = .next s := by
  rw [exec_work, hc]
  exact State.takeRequest_lost lost owner

theorem exec_taken {c : Instr} {owner : State → State} (hc : work c = .request owner) (accepting : s.accepting) :
    exec c s = .next (owner (s.setPhase .spent)) := by
  rw [exec_work, hc]
  exact State.takeRequest_accepting accepting owner

theorem exec_event_eq {c : Instr} {effect : State → State} (hc : work c = .event effect) (s : State) : exec c s = .next (effect s) := by
  rw [exec_work, hc]

/-- The command RESTART COLD and its RANGE twin with form 0 begin a start (R172). -/
theorem exec_restartCold {c : Instr} (cold : c = .restartCold ∨ c = .restartRange 0) (accepting : s.accepting) :
    exec c s = .next ((s.setPhase .spent).beginStart .coldRequest) := by
  obtain rfl | rfl := cold
  · exact exec_taken (c := .restartCold) rfl accepting
  · exact exec_taken (c := .restartRange 0) rfl accepting

/-- A MAP SWITCH while RUNNING is staged (R125). -/
theorem exec_mapSwitch_running (accepting : s.accepting) (running : s.sched.isRunning = true) :
    exec .mapSwitch s = .next { s with link := { s.link with phase := .spent, staged := true } } := by
  rw [exec_taken (c := .mapSwitch) rfl accepting]
  unfold State.mapSwitchRequest
  rw [if_pos (show (s.setPhase .spent).sched.isRunning = true from running)]
  rfl

theorem next_inj {a b : State} (h : (.next a : Host.Outcome State Fault Refusal) = .next b) : a = b := by
  injection h

end

end Sys2Proof.Machine

namespace Sys2Proof.Proofs

open Sys2Proof Sys2Proof.Machine

/-- Settles O1, by the definition of a step. -/
theorem stepRunsTheFrontCommand : Obligations.StepRunsTheFrontCommand := by
  refine ⟨fun c rest s => rfl, fun s empty => ?_⟩
  unfold step
  rw [empty]

/-- Settles O3: every request but the two is served, and a lost one leaves the state. -/
theorem oneReplyPerAcceptedRequest : Obligations.OneReplyPerAcceptedRequest := by
  refine ⟨fun c s t k kind accepting next => ⟨?_, ?_, ?_⟩, fun c s record lost => ?_⟩
  · rintro ⟨rfl, running⟩
    exact next_inj (next.symm.trans (exec_mapSwitch_running accepting running))
  · intro cold
    obtain rfl := next_inj (next.symm.trans (exec_restartCold cold accepting))
    exact ⟨rfl, rfl⟩
  · intro decided warm
    exact (exec_served kind accepting next decided warm).answers s.ended_setPhase
  · obtain ⟨owner, hc⟩ := work_of_record record
    exact exec_lost hc lost

/-- Settles O4: a reply with a refusing code is all that its request did. -/
theorem refusedRequestsChangeNothing : Obligations.RefusedRequestsChangeNothing := by
  intro c s t r record accepting empty next reply code
  have refuses : r.code.refuses = true := by
    obtain e | e | e | e | e := code <;> rw [e] <;> rfl
  obtain isRequest | ⟨kind, len, taken, rfl⟩ := record
  · obtain ⟨k, kind⟩ := Option.ne_none_iff_exists'.1 isRequest
    by_cases cold : c = .restartCold ∨ c = .restartRange 0
    · obtain rfl := next_inj (next.symm.trans (exec_restartCold cold accepting))
      cases reply
    · by_cases staged : c = .mapSwitch ∧ s.sched.isRunning = true
      · obtain ⟨rfl, running⟩ := staged
        obtain rfl := next_inj (next.symm.trans (exec_mapSwitch_running accepting running))
        exact absurd (empty.symm.trans reply) (fun e => nomatch e)
      · exact (exec_served kind accepting next staged cold).refusal reply refuses
  · obtain rfl := next_inj (next.symm.trans (exec_taken (c := .malformedRecord kind len taken) rfl accepting))
    exact served_malformed (s := s.setPhase .spent) empty reply

end Sys2Proof.Proofs
end

section
/-! The reset state, and the transactions of the serial port: first byte, READ, completion, early end (R151 to R162). -/

namespace Sys2Proof.Machine

open Sys2Proof

/-! ### The status byte -/

/-- Each flag of a status byte stands at its own bit (R152, R175). -/
theorem statusBits (ready reply notice frame error : Bool) :
    let b := flagBit 7 ready ||| flagBit 6 reply ||| flagBit 5 notice ||| flagBit 4 frame ||| flagBit 3 error
    b.getLsbD 7 = ready ∧ b.getLsbD 6 = reply ∧ b.getLsbD 5 = notice ∧ b.getLsbD 4 = frame ∧ b.getLsbD 3 = error
      ∧ b.getLsbD 2 = false ∧ b.getLsbD 1 = false ∧ b.getLsbD 0 = false := by
  revert ready reply notice frame error
  decide

section
variable {s : State}

/-- The fall of SELECT outside a start: a READ still open has ended early, then the status byte is formed (R152, R162). -/
theorem State.selectFall_eq (idle : s.part.starting = none) :
    s.selectFall = { s with link := { s.link with phase := .selected s.endReadEarly.statusByte, error := s.endReadEarly.link.error } } := by
  unfold State.selectFall
  rw [idle]
  dsimp only [Option.isSome_none]
  unfold State.endReadEarly
  cases s.link.phase <;> rfl

/-- What the status byte shows but for the error flag does not depend on the phase. -/
theorem State.statusByte_endReadEarly (s : State) :
    s.endReadEarly.statusByte = flagBit 7 s.ready ||| flagBit 6 s.link.reply.isSome ||| flagBit 5 (!s.link.notices.isEmpty)
      ||| flagBit 4 (!s.store.delivery.isEmpty) ||| flagBit 3 s.endReadEarly.link.error := by
  unfold State.endReadEarly
  cases s.link.phase <;> rfl

/-- A status byte that carried ERROR has cleared the flag (R153). -/
theorem State.statusSent_eq (s : State) (b : Byte) :
    s.statusSent b = { s with link := { s.link with error := !b.getLsbD 3 && s.link.error } } := by
  unfold State.statusSent statusError
  cases b.getLsbD 3 <;> rfl

theorem State.ready_iff (s : State) : s.ready = true ↔ s.link.staged = false ∧ s.link.reply = none := by
  simp [State.ready]

theorem State.takeWrite_selected {b : Byte} (selected : s.link.phase = .selected b) :
    s.takeWrite = if s.link.staged = false ∧ s.link.reply = none then
        { s with link := { s.link with phase := .writing, error := !b.getLsbD 3 && s.link.error } }
      else { s with link := { s.link with phase := .spent, error := true } } := by
  unfold State.takeWrite
  rw [selected]
  dsimp only
  have same : (s.statusSent b).ready = s.ready := by
    rw [State.statusSent_eq]
    rfl
  rw [same, State.statusSent_eq]
  by_cases ready : s.ready = true
  · rw [if_pos ready, if_pos (s.ready_iff.1 ready)]
    rfl
  · rw [if_neg ready, if_neg fun h => ready (s.ready_iff.2 h)]
    rfl

theorem State.takeInvalid_selected {b : Byte} (selected : s.link.phase = .selected b) :
    s.takeInvalid = { s with link := { s.link with phase := .spent, error := true } } := by
  unfold State.takeInvalid
  rw [selected]
  dsimp only
  rw [State.statusSent_eq]
  rfl

theorem State.takeRead_selected {b : Byte} (selected : s.link.phase = .selected b) :
    s.takeRead = { s with link := { s.link with
      phase := .reading s.offer (s.recordOf s.offer) { postings := 0, rescue := none }
      error := !b.getLsbD 3 && s.link.error } } := by
  unfold State.takeRead
  rw [selected]
  dsimp only
  rw [State.statusSent_eq]
  rfl

/-- Outside a first byte the kinds of a transaction change nothing (log 1). -/
theorem State.firstByte_idle (unselected : ∀ b : Byte, s.link.phase ≠ .selected b) :
    s.takeWrite = s ∧ s.takeInvalid = s ∧ s.takeRead = s := by
  unfold State.takeWrite State.takeInvalid State.takeRead
  cases phase : s.link.phase with
  | selected b => exact absurd phase (unselected b)
  | none => exact ⟨rfl, rfl, rfl⟩
  | writing => exact ⟨rfl, rfl, rfl⟩
  | reading _ _ _ => exact ⟨rfl, rfl, rfl⟩
  | spent => exact ⟨rfl, rfl, rfl⟩

/-! ### The rank of what a READ offers (R159) -/

theorem State.offer_reply {r : Reply} (reply : s.link.reply = some r) : s.offer = .reply ∧ s.recordOf .reply = r.record := by
  unfold State.offer State.recordOf
  rw [reply]
  exact ⟨rfl, rfl⟩

theorem State.offer_notice (reply : s.link.reply = none) {n : Notice} {rest : List Notice} (notices : s.link.notices = n :: rest) :
    s.offer = .notice n.source ∧ s.recordOf (.notice n.source) = n.record := by
  unfold State.offer State.recordOf
  rw [reply, notices]
  refine ⟨rfl, ?_⟩
  have first : (n :: rest).find? (fun m => m.source == n.source) = some n := List.find?_cons_of_pos (beq_iff_eq.2 rfl)
  dsimp only
  rw [first]

theorem State.offer_frame (reply : s.link.reply = none) (notices : s.link.notices = []) {h : Handle} {rest : List Handle}
    (delivery : s.store.delivery = h :: rest) :
    s.offer = .frame h ∧ ∀ f, s.frame h = some f → s.recordOf (.frame h) = frameRecord f (s.payload f) := by
  unfold State.offer State.recordOf
  rw [reply, notices, delivery]
  refine ⟨rfl, fun f stored => ?_⟩
  dsimp only
  rw [stored]

theorem State.offer_empty (reply : s.link.reply = none) (notices : s.link.notices = []) (delivery : s.store.delivery = []) :
    s.offer = .empty := by
  unfold State.offer
  rw [reply, notices, delivery]
  rfl

/-! ### The end of a READ -/

/-- Without an open READ its completion and its early end change nothing (log 1). -/
theorem State.read_idle (closed : ∀ item record c, s.link.phase ≠ .reading item record c) :
    s.completeRead = s ∧ s.endReadEarly = s := by
  unfold State.completeRead State.endReadEarly
  cases phase : s.link.phase with
  | reading item record c => exact absurd phase (closed item record c)
  | none => exact ⟨rfl, rfl⟩
  | selected _ => exact ⟨rfl, rfl⟩
  | writing => exact ⟨rfl, rfl⟩
  | spent => exact ⟨rfl, rfl⟩

section
variable {item : Item} {record : List Byte} {c : Carry}

theorem State.endReadEarly_reading (reading : s.link.phase = .reading item record c) :
    s.endReadEarly = { s with link := { s.link with phase := .none, error := true } } := by
  unfold State.endReadEarly
  rw [reading]
  rfl

theorem State.completeRead_reading (reading : s.link.phase = .reading item record c) :
    s.completeRead = (s.consume item c).setPhase .spent := by
  unfold State.completeRead
  rw [reading]

end

/-- The state with the delivery queue replaced. -/
def State.setDelivery (s : State) (q : List Handle) : State := { s with store := { s.store with delivery := q } }

/-- The one notice of its source, consumed out of the set, and its carry back at the tail (R160, R161). -/
theorem consumeNotice_split {src : Source} {pre post : List Notice} {n : Notice} (source : n.source = src)
    (alone : ∀ m ∈ pre ++ post, m.source ≠ src) (c : Carry) :
    consumeNotice src c (pre ++ n :: post)
      = pre ++ post ++ (if c.postings = 0 then [] else [{ n with changes := c.postings, rescue := c.rescue }]) := by
  have others : ∀ l : List Notice, (∀ m ∈ l, m.source ≠ src) → (l.filter fun m => m.source != src) = l :=
    fun l apart => List.filter_eq_self.2 fun m hm => by simpa using apart m hm
  have before : ∀ m ∈ pre, m.source ≠ src := fun m hm => alone m (List.mem_append.2 (.inl hm))
  have after : ∀ m ∈ post, m.source ≠ src := fun m hm => alone m (List.mem_append.2 (.inr hm))
  have found : (pre ++ n :: post).find? (fun m => m.source == src) = some n := by
    have skip : pre.find? (fun m => m.source == src) = none := List.find?_eq_none.2 fun m hm => by simpa using before m hm
    rw [List.find?_append, skip, Option.none_or]
    exact List.find?_cons_of_pos (beq_iff_eq.2 source)
  have rest : ((pre ++ n :: post).filter fun m => m.source != src) = pre ++ post := by
    rw [List.filter_append, List.filter_cons_of_neg (by simp [source]), others pre before, others post after]
  unfold consumeNotice
  rw [found]
  dsimp only
  rw [rest]
  split
  · rw [List.append_nil]
  · rfl

end

end Sys2Proof.Machine

namespace Sys2Proof.Proofs

open Sys2Proof Sys2Proof.Machine

/-- Settles O53: the reset state is the state that a cold start leaves, and each law holds of that. -/
theorem resetIsLawful : Obligations.ResetIsLawful := by
  obtain ⟨memory, pages⟩ := storage_of_cold (s := State.reset) rfl
  obtain ⟨notices, port⟩ := hostLinked_cold .power false []
  obtain ⟨stored, silent, flight⟩ := queues_of_cold (s := State.reset) rfl rfl
  obtain ⟨margins, windows, settings, counters⟩ := ranges_iff.2 (ranges_cold .power false [])
  exact ⟨memory, noticeLaw_iff.2 notices, portLaw_iff.2 port, pathLaw_cold _ _ _, pages, storeLaw_iff.2 ⟨stored, silent, flight⟩,
    neighbourLaw_iff.2 (enrolment_cold _ _ _), margins, windows, settings, holdLaw_iff.2 (held_cold _ _ _),
    mapLaw_iff.2 (mapped_cold _ _ _), correctionLaw_of_closed rfl, frontEndLaw_iff.2 (fronted_of_off rfl rfl (fun _ e => nomatch e)),
    scannerLaw_iff.2 (scanned_of_idle rfl), counters⟩

/-- Settles O5: the status byte holds a flag per bit, and the first byte acts on READY and the error flag. -/
theorem transactionsBeginWithTheStatusByte : Obligations.TransactionsBeginWithTheStatusByte := by
  refine ⟨⟨rfl, rfl, fun b notWrite notRead => ?_⟩, fun k b item record c => ⟨rfl, rfl, rfl, rfl, rfl, fun x e => ?_, fun e => ?_⟩,
    fun s => ⟨fun begun => ?_, fun idle => ?_, fun b selected => ⟨?_, ?_⟩, fun unselected => ⟨?_, ?_⟩⟩⟩
  · unfold decodeFirstByte
    rw [if_neg notWrite, if_neg notRead]
  · show some (record.getD k fillerByte) = some x
    rw [List.getD_eq_getElem?_getD, e]
    rfl
  · show some (record.getD k fillerByte) = some 0
    rw [List.getD_eq_getElem?_getD, List.getElem?_eq_none e]
    rfl
  · rw [exec_event_eq (c := .selectFall) rfl]
    unfold State.selectFall
    rw [if_pos (Option.isSome_iff_ne_none.2 begun)]
  · refine ⟨s.endReadEarly.statusByte, s.endReadEarly.link.error, ?_, ?_, ?_⟩
    · rw [exec_event_eq (c := .selectFall) rfl, State.selectFall_eq idle]
    · unfold State.endReadEarly
      cases s.link.phase <;> rfl
    · rw [State.statusByte_endReadEarly]
      exact statusBits _ _ _ _ _
  · rw [exec_event_eq (c := .write) rfl, State.takeWrite_selected selected]
  · rw [exec_event_eq (c := .invalidTransactionKind) rfl, State.takeInvalid_selected selected]
  · rw [exec_event_eq (c := .write) rfl, (State.firstByte_idle unselected).1]
  · rw [exec_event_eq (c := .invalidTransactionKind) rfl, (State.firstByte_idle unselected).2.1]

/-- Settles O6, rank by rank. -/
theorem readOffersByRank : Obligations.ReadOffersByRank := by
  refine ⟨fun s unselected => ?_, fun s b selected => ⟨s.offer, s.recordOf s.offer, ?_, fun r reply => ?_, fun reply =>
    ⟨fun n rest notices => ?_, fun notices => ⟨fun h rest delivery => ?_, fun delivery => ?_⟩⟩⟩⟩
  · rw [exec_event_eq (c := .read) rfl, (State.firstByte_idle unselected).2.2]
  · rw [exec_event_eq (c := .read) rfl, State.takeRead_selected selected]
  · obtain ⟨offer, record⟩ := State.offer_reply reply
    rw [offer]
    exact ⟨rfl, record⟩
  · obtain ⟨offer, record⟩ := State.offer_notice reply notices
    rw [offer]
    exact ⟨rfl, record⟩
  · obtain ⟨offer, record⟩ := State.offer_frame reply notices delivery
    rw [offer]
    exact ⟨rfl, record⟩
  · rw [State.offer_empty reply notices delivery]
    exact ⟨rfl, rfl⟩

/-- Settles O7, by the kind of the offered item. -/
theorem readsConsumeTheItemOrNothing : Obligations.ReadsConsumeTheItemOrNothing := by
  refine ⟨fun s closed => ?_, fun s item record c reading => ⟨?_, ?_⟩⟩
  · obtain ⟨completed, ended⟩ := State.read_idle closed
    rw [exec_event_eq (c := .readCompletion) rfl, exec_event_eq (c := .readEndedEarly) rfl, completed, ended]
    exact ⟨rfl, rfl⟩
  · rw [exec_event_eq (c := .readEndedEarly) rfl, State.endReadEarly_reading reading]
  · have completed : exec .readCompletion s = .next ((s.consume item c).setPhase .spent) := by
      rw [exec_event_eq (c := .readCompletion) rfl, State.completeRead_reading reading]
    cases item with
    | reply => exact completed
    | empty => exact completed
    | notice src =>
      intro pre n post notices source alone
      rw [completed]
      unfold State.consume
      dsimp only
      rw [notices, consumeNotice_split source alone]
      cases src with
      | scanner =>
        obtain ⟨link, mon, path, store, radio, sched, ⟨settings, state, ignored⟩, part, pending⟩ := s
        cases state <;> rfl
      | _ => rfl
    | frame h =>
      intro rest f delivery stored
      rw [completed]
      have taken : s.consume (.frame h) c = (s.setDelivery rest).release h := by
        unfold State.consume State.takeDelivered State.setDelivery
        dsimp only
        rw [delivery, List.erase_cons_head]
      rw [taken, State.release_some (s := s.setDelivery rest) stored]
      rfl

end Sys2Proof.Proofs
end

section
/-! Postings and the carry of a READ (R158, R161), malformed records (R155), LINK SETTINGS (R13), and the figures of chapter 1. -/

namespace Sys2Proof.Machine

open Sys2Proof

/-! ### Postings -/

/-- A posting to the one pending notice of its source updates it in its place (R158). -/
theorem postInto_split {src : Source} {pre post : List Notice} {n : Notice} (source : n.source = src)
    (alone : ∀ m ∈ pre ++ post, m.source ≠ src) (content : NoticeContent) (rescue : Option Rescue) :
    postInto src content rescue (pre ++ n :: post)
      = pre ++ { n with content := content, changes := bump 255 n.changes, rescue := addRescue n.rescue rescue } :: post := by
  have others : ∀ l : List Notice, (∀ m ∈ l, m.source ≠ src) →
      (l.map fun m => if m.source == src then
        { m with content := content, changes := bump 255 m.changes, rescue := addRescue m.rescue rescue } else m) = l :=
    fun l apart => List.map_congr_left (g := id) (fun m hm => by simp [apart m hm]) |>.trans (List.map_id l)
  have pending : (pre ++ n :: post).any (fun m => m.source == src) = true :=
    List.any_eq_true.2 ⟨n, by simp, beq_iff_eq.2 source⟩
  unfold postInto
  rw [if_pos pending, List.map_append, List.map_cons, others pre fun m hm => alone m (List.mem_append.2 (.inl hm)),
    others post fun m hm => alone m (List.mem_append.2 (.inr hm)), if_pos (beq_iff_eq.2 source)]

/-- Where sources are distinct, a pending notice stands alone. -/
theorem pending_split {src : Source} {set : List Notice} (distinct : (set.map (·.source)).Nodup)
    (pending : set.any (fun m => m.source == src) = true) :
    ∃ pre n post, set = pre ++ n :: post ∧ n.source = src ∧ ∀ m ∈ pre ++ post, m.source ≠ src := by
  obtain ⟨n, hn, source⟩ := List.any_eq_true.1 pending
  have source : n.source = src := beq_iff_eq.1 source
  obtain ⟨pre, post, rfl⟩ := List.append_of_mem hn
  refine ⟨pre, n, post, rfl, source, fun m hm e => ?_⟩
  rw [List.map_append, List.map_cons, List.nodup_middle, List.nodup_cons, ← List.map_append] at distinct
  exact distinct.1 (List.mem_map.2 ⟨m, hm, e.trans source.symm⟩)

/-- The carry with one more posting (R161). -/
def Carry.posted (c : Carry) (rescue : Option Rescue) : Carry :=
  { postings := bump 255 c.postings, rescue := addRescue c.rescue rescue }

theorem Carry.posted_ne_zero (c : Carry) (rescue : Option Rescue) : (c.posted rescue).postings ≠ 0 := by
  show min 255 (c.postings + 1) ≠ 0
  omega

/-- A posting to the offered notice and its consumption leave the same set in either order (R161). -/
theorem consumeNotice_postInto {src : Source} {set : List Notice} (distinct : (set.map (·.source)).Nodup)
    (pending : set.any (fun m => m.source == src) = true) {c : Carry} (fresh : c.postings = 0 → c.rescue = none)
    (content : NoticeContent) (rescue : Option Rescue) :
    consumeNotice src (c.posted rescue) (postInto src content rescue set)
      = postInto src content rescue (consumeNotice src c set) := by
  obtain ⟨pre, n, post, rfl, source, alone⟩ := pending_split distinct pending
  have consumed := consumeNotice_split (src := src) (pre := pre) (post := post)
    (n := { n with content := content, changes := bump 255 n.changes, rescue := addRescue n.rescue rescue }) source alone
    (c.posted rescue)
  rw [postInto_split source alone, consumed, if_neg (c.posted_ne_zero rescue), consumeNotice_split source alone]
  by_cases none_ : c.postings = 0
  · rw [if_pos none_, List.append_nil, postInto_fresh _ _ alone]
    subst source
    unfold Carry.posted
    rw [none_, fresh none_]
    rfl
  · rw [if_neg none_, postInto_split (post := []) (n := { n with changes := c.postings, rescue := c.rescue }) source
      (by simpa using alone)]
    rfl

/-- The scanner released where the notice consumed is its own (R145). -/
def State.releasedFor (s : State) (src : Source) : State := if src = .scanner then s.releaseScanner else s

theorem State.releasedFor_setLink (s : State) (src : Source) (l : HostLink) :
    (s.setLink l).releasedFor src = (s.releasedFor src).setLink l := by
  unfold State.releasedFor State.releaseScanner
  split
  · show (match s.scan.state with | .paused _ => _ | _ => _) = _
    cases s.scan.state <;> rfl
  · rfl

theorem State.releasedFor_link (s : State) (src : Source) : (s.releasedFor src).link = s.link := by
  unfold State.releasedFor State.releaseScanner
  split
  · cases s.scan.state <;> rfl
  · rfl

theorem State.completeRead_notice {s : State} {src : Source} {record : List Byte} {c : Carry}
    (reading : s.link.phase = .reading (.notice src) record c) :
    s.completeRead = (s.releasedFor src).setLink
      { s.link with phase := .spent, notices := consumeNotice src c s.link.notices } := by
  have taken : s.consume (.notice src) c = (s.setLink { s.link with notices := consumeNotice src c s.link.notices }).releasedFor src := rfl
  rw [State.completeRead_reading reading, taken, State.releasedFor_setLink]
  rfl

/-- A posting into the state that the completion leaves. -/
theorem State.completeRead_post {s : State} {src : Source} {record : List Byte} {c : Carry}
    (distinct : (s.link.notices.map (·.source)).Nodup) (pending : s.isPending src = true)
    (reading : s.link.phase = .reading (.notice src) record c) (fresh : c.postings = 0 → c.rescue = none)
    (content : NoticeContent) (rescue : Option Rescue) :
    (s.post src content rescue).completeRead = s.completeRead.post src content rescue := by
  have carried : (s.post src content rescue).link.phase = .reading (.notice src) record (c.posted rescue) := by
    show carryPosting src rescue s.link.phase = _
    rw [reading]
    exact if_pos rfl
  rw [State.completeRead_notice carried, State.completeRead_notice reading]
  unfold State.post
  rw [State.releasedFor_setLink]
  show (s.releasedFor src).setLink _ = (s.releasedFor src).setLink _
  congr 1
  exact congrArg (fun set : List Notice => { s.link with phase := .spent, notices := set })
    (consumeNotice_postInto distinct pending fresh content rescue)

/-! ### Malformed records -/

/-- The kinds whose body has one length, with that length (R175). -/
def fixedLengths : List (Nat × Nat) :=
  [(0x01, 19), (0x02, 5), (0x03, 1), (0x04, 1), (0x05, 2), (0x06, 4), (0x07, 6), (0x08, 9), (0x09, 7), (0x0A, 2),
    (0x0B, 3), (0x0C, 1), (0x0D, 5), (0x0E, 1), (0x10, 1), (0x11, 2), (0x13, 1), (0x14, 0), (0x15, 0), (0x16, 0),
    (0x17, 1), (0x18, 5), (0x19, 0), (0x1A, 0), (0x1B, 3), (0x1C, 0), (0x1D, 1)]

theorem knownKind_iff (k : Byte) : knownKind k = true ↔ 1 ≤ k.toNat ∧ k.toNat ≤ 0x1D := by
  simp [knownKind]

/-- The lengths that a kind allows: its one length, or the span of FRAME SEND or MAP WRITE (R175). -/
theorem allowedLength_iff {k : Byte} (known : 1 ≤ k.toNat ∧ k.toNat ≤ 0x1D) (l : Nat) :
    allowedLength k l = true ↔ (k.toNat, l) ∈ fixedLengths ∨ (k.toNat = 0x0F ∧ 5 ≤ l ∧ l ≤ 1444)
      ∨ (k.toNat = 0x12 ∧ 7 ≤ l ∧ l ≤ 69 ∧ l % 2 = 1) := by
  unfold allowedLength fixedLengths
  generalize k.toNat = n at known
  obtain ⟨low, high⟩ := known
  interval_cases n <;> simp [and_assoc]

theorem le_maxBody_of_allowed {k : Byte} (known : 1 ≤ k.toNat ∧ k.toNat ≤ 0x1D) {l : Nat} (allowed : allowedLength k l = true) :
    l ≤ maxBody := by
  unfold allowedLength at allowed
  unfold maxBody
  generalize k.toNat = n at known allowed
  obtain ⟨low, high⟩ := known
  interval_cases n <;> simp at allowed <;> omega

theorem malformedReason_kind {k : Byte} (unknown : ¬ (1 ≤ k.toNat ∧ k.toNat ≤ 0x1D)) (len : Option Nat) (taken : Nat) :
    malformedReason (some k) len taken = some .kind := by
  have unknown : knownKind k = false := eq_false_of_ne_true fun e => unknown ((knownKind_iff k).1 e)
  simp [malformedReason, unknown]

theorem malformedReason_known {k : Byte} (known : 1 ≤ k.toNat ∧ k.toNat ≤ 0x1D) (l taken : Nat) :
    malformedReason (some k) (some l) taken
      = if allowedLength k l = true then (if taken < l then some .short else none) else some .length := by
  have known' : knownKind k = true := (knownKind_iff k).2 known
  unfold malformedReason
  dsimp only
  rw [known']
  by_cases allowed : allowedLength k l = true
  · have bounded := le_maxBody_of_allowed known allowed
    simp [allowed, Nat.not_lt.2 bounded]
  · simp [allowed]

theorem malformedReason_cut {k : Byte} (known : 1 ≤ k.toNat ∧ k.toNat ≤ 0x1D) (taken : Nat) :
    malformedReason (some k) none taken = some .short := by
  have known' : knownKind k = true := (knownKind_iff k).2 known
  simp [malformedReason, known']

theorem exec_malformed {s : State} (accepting : s.accepting) {kind : Option Byte} {len : Option Half} {taken : Half} {why : Malformed}
    (reason : malformedReason kind (len.map BitVec.toNat) taken.toNat = some why) :
    exec (.malformedRecord kind len taken) s = .next { s with link := { s.link with
      phase := .spent
      reply := some { kind := kind, code := .format, body := .format (len.map BitVec.toNat) why taken.toNat } } } := by
  rw [exec_taken (c := .malformedRecord kind len taken) rfl accepting]
  unfold State.malformed
  rw [reason]
  rfl

/-! ### LINK SETTINGS -/

theorem flagOf_zero : flagOf 0 = some false := rfl

theorem flagOf_one : flagOf 1 = some true := rfl

theorem flagOf_other {b : Byte} (zero : b ≠ 0) (one : b ≠ 1) : flagOf b = none := by
  have zero : b.toNat ≠ 0 := fun e => zero (BitVec.eq_of_toNat_eq e)
  have one : b.toNat ≠ 1 := fun e => one (BitVec.eq_of_toNat_eq e)
  unfold flagOf
  split
  · next e => exact absurd e zero
  · next e => exact absurd e one
  · rfl

theorem clampNat_zero (hi x : Nat) : clampNat 0 hi x = min hi x := by
  unfold clampNat
  split
  · omega
  · split <;> omega

theorem clampNat_one {hi : Nat} (h : 1 ≤ hi) (x : Nat) : clampNat 1 hi x = max 1 (min hi x) := by
  unfold clampNat
  split
  · omega
  · split <;> omega

theorem legalSettings_iff (c : CarriedSettings) :
    legalSettings c = true ↔ (-128 ≤ c.tF.toInt ∧ c.tF.toInt ≤ 383) ∧ (-128 ≤ c.tR.toInt ∧ c.tR.toInt ≤ 383)
      ∧ c.tF.toInt < c.tR.toInt ∧ (-128 ≤ c.t1.toInt ∧ c.t1.toInt ≤ 383) ∧ (-128 ≤ c.t2.toInt ∧ c.t2.toInt ≤ 383)
      ∧ (-128 ≤ c.t3.toInt ∧ c.t3.toInt ≤ 383) ∧ c.t1.toInt < c.t2.toInt ∧ c.t2.toInt < c.t3.toInt := by
  simp only [legalSettings, legalThreshold, Bool.and_eq_true, decide_eq_true_eq, and_assoc]

theorem takenSettings_eq (c : CarriedSettings) :
    takenSettings c =
      { k := min 6 c.k.toNat, tF := c.tF.toInt, tR := c.tR.toInt, wF := max 1 (min 16 c.wF.toNat),
        wR := max 1 (min 16 c.wR.toNat), missLimit := max 1 (min 64 c.missLimit.toNat), t1 := c.t1.toInt,
        t2 := c.t2.toInt, t3 := c.t3.toInt, hyst := min 127 c.hyst.toNat, retryLimit := min 15 c.retryLimit.toNat,
        acqLimit := max 1 c.acqLimit.toNat, queueLimit := max 1 (min 32 c.queueLimit.toNat) } := by
  have age : clampNat 1 255 c.acqLimit.toNat = max 1 c.acqLimit.toNat := by
    have := c.acqLimit.isLt
    rw [clampNat_one (by decide)]
    omega
  unfold takenSettings
  simp only [clampNat_zero, clampNat_one (show 1 ≤ 16 by decide), clampNat_one (show 1 ≤ 64 by decide),
    clampNat_one (show 1 ≤ 32 by decide), age]

/-- One row of the list of names: the name where the carried value differs from the value taken (R13). -/
def clampRow (x : SettingName × Nat × Nat) : Option SettingName := if x.2.1 = x.2.2 then none else some x.1

theorem filterMap_clampRow (name : SettingName) (carried now : Nat) (rest : List (SettingName × Nat × Nat)) :
    ((name, carried, now) :: rest).filterMap clampRow = (if carried = now then [] else [name]) ++ rest.filterMap clampRow := by
  unfold clampRow
  by_cases same : carried = now <;> simp [same]

theorem clampedSettings_eq (c : CarriedSettings) :
    clampedSettings c =
      [(.k, c.k.toNat, (takenSettings c).k), (.wF, c.wF.toNat, (takenSettings c).wF), (.wR, c.wR.toNat, (takenSettings c).wR),
        (.missLimit, c.missLimit.toNat, (takenSettings c).missLimit), (.hyst, c.hyst.toNat, (takenSettings c).hyst),
        (.retryLimit, c.retryLimit.toNat, (takenSettings c).retryLimit), (.acqLimit, c.acqLimit.toNat, (takenSettings c).acqLimit),
        (.queueLimit, c.queueLimit.toNat, (takenSettings c).queueLimit)].filterMap clampRow := by
  simp only [filterMap_clampRow, List.filterMap_nil, List.append_nil]
  unfold clampedSettings
  simp only [List.append_assoc]

/-! ### Figures -/

theorem marginOf_bounds (a : Int) : 16 * marginOf a ≤ a ∧ a < 16 * marginOf a + 16 := by
  unfold marginOf
  omega

theorem tierOf_some (c : LinkSettings) (cap : Fin 4) (m : Int) : (tierOf c cap (some m)).val = min cap.val (tierCount c m) := by
  unfold tierOf
  dsimp only
  split
  · next low => exact (min_eq_right low).symm
  · next high => exact (min_eq_left (by omega)).symm

/-- With rising thresholds the count of those reached is the band of the margin (R8). -/
theorem tierCount_eq {c : LinkSettings} (low : c.t1 < c.t2) (high : c.t2 < c.t3) (m : Int) :
    tierCount c m = if m < c.t1 then 0 else if m < c.t2 then 1 else if m < c.t3 then 2 else 3 := by
  unfold tierCount
  split_ifs <;> omega

/-- A burst is its frames and the gaps between them (R11). -/
theorem burstAirtime_cons (b len : Nat) (lens : List Nat) :
    burstAirtime b (len :: lens) = ((len :: lens).map fun l => 320 + (24 + l) * b).sum + 128 * lens.length := by
  induction lens generalizing len with
  | nil => simp [burstAirtime, airtime]
  | cons next rest ih =>
    have unfolded : burstAirtime b (len :: next :: rest) = airtime b len + 128 + burstAirtime b (next :: rest) := rfl
    rw [unfolded, ih next, airtime]
    simp only [List.map_cons, List.sum_cons, List.length_cons]
    omega

end Sys2Proof.Machine

namespace Sys2Proof.Proofs

open Sys2Proof Sys2Proof.Machine

/-- Settles O8: a posting is stated on the set and on the carry, and the two orders leave the same set. -/
theorem postingsAddOrUpdateInPlace : Obligations.PostingsAddOrUpdateInPlace := by
  refine ⟨fun s src content rescue => ?_, fun s t u src content rescue record c distinct pending reading fresh posted completed => ?_⟩
  · intro added carried posted
    have adds : ∀ old, addRescue old rescue = added old := fun old => by cases old <;> cases rescue <;> rfl
    have carries : carryPosting src rescue s.link.phase = carried := by
      show carryPosting src rescue s.link.phase = _
      unfold carryPosting
      cases phase : s.link.phase with
      | reading item record c =>
        simp only [carried, phase, ← adds]
        rfl
      | _ => simp only [carried, phase]
    have posts : s.post src content rescue = posted (postInto src content rescue s.link.notices) := by
      show s.setLink _ = _
      rw [carries]
      rfl
    refine ⟨fun none_ => ?_, fun pre n post set source alone => ?_⟩
    · rw [posts, postInto_fresh _ _ none_]
    · rw [posts, set, postInto_split source alone, ← adds]
      rfl
  · rw [exec_event_eq (c := .readCompletion) rfl] at posted completed
    obtain rfl := next_inj posted
    obtain rfl := next_inj completed
    exact State.completeRead_post distinct pending reading fresh content rescue

/-- Settles O9: each reason is the first check that fails. -/
theorem malformedRecordsAreAnsweredFormat : Obligations.MalformedRecordsAreAnsweredFormat := by
  intro s kind len taken why accepting fixed allowed reason
  refine exec_malformed accepting ?_
  obtain ⟨rfl, k, rfl, unknown⟩ | ⟨rfl, k, l, rfl, low, high, rfl, other⟩ | ⟨rfl, k, rfl, low, high, cut⟩ | ⟨rfl, rfl, rfl⟩ := reason
  · exact malformedReason_kind (by omega) _ _
  · rw [Option.map_some, malformedReason_known ⟨low, high⟩, if_neg fun e => other ((allowedLength_iff ⟨low, high⟩ _).1 e)]
  · obtain rfl | ⟨l, rfl, fits, short⟩ := cut
    · exact malformedReason_cut ⟨low, high⟩ _
    · rw [Option.map_some, malformedReason_known ⟨low, high⟩, if_pos ((allowedLength_iff ⟨low, high⟩ _).2 fits), if_pos short]
  · rfl

/-- Settles O11, by the write flag and the legality of the thresholds. -/
theorem linkSettingsTakesAllOrNone : Obligations.LinkSettingsTakesAllOrNone := by
  intro s wr c accepting inRange legal taken clamped
  have isTaken : takenSettings c = taken := takenSettings_eq c
  have isClamped : clampedSettings c = clamped := by
    rw [clampedSettings_eq, isTaken]
    rfl
  have done : exec (.linkSettings wr c) s = .next ((s.setPhase .spent).linkSettings wr c) :=
    exec_taken (c := .linkSettings wr c) rfl accepting
  refine ⟨?_, ?_, ?_, fun zero one => ?_⟩
  · rintro rfl
    rw [done]
    rfl
  · rintro rfl ok
    rw [done]
    unfold State.linkSettings
    rw [flagOf_one]
    dsimp only
    rw [if_pos ((legalSettings_iff c).2 ok), isTaken, isClamped]
    rfl
  · rintro rfl bad
    rw [done]
    unfold State.linkSettings
    rw [flagOf_one]
    dsimp only
    rw [if_neg fun e => bad ((legalSettings_iff c).1 e)]
    rfl
  · rw [done]
    unfold State.linkSettings
    rw [flagOf_other zero one]
    rfl

/-- Settles O14, figure by figure. -/
theorem tiersAndAirtimes : Obligations.TiersAndAirtimes := by
  refine ⟨fun c f => ?_, fun a => ⟨(marginOf_bounds a).1, (marginOf_bounds a).2, fun low high => ?_⟩, fun c cap m low high => ?_,
    fun c cap => rfl, by decide, burstAirtime_cons, fun t slotLen long => ?_⟩
  · unfold sampleOf clampInt
    split_ifs <;> omega
  · unfold marginOf
    omega
  · rw [tierOf_some, tierCount_eq low high]
  · have cost : byteCost t ≤ 8 := by
      revert t
      decide
    unfold airtime
    omega

end Sys2Proof.Proofs
end

section
/-! Records of requests: the bytes of a well-formed request are read as that request (R154, R155, R175). -/

namespace Sys2Proof.Machine

open Sys2Proof

theorem halfOf_extract (h : Half) : halfOf (h.extractLsb' 8 8) (h.extractLsb' 0 8) = h := by
  unfold halfOf
  ext i hi
  simp only [BitVec.getElem_append, BitVec.getElem_extractLsb']
  split
  · simp [BitVec.getLsbD_eq_getElem hi]
  · next high =>
    have back : 8 + (i - 8) = i := by omega
    simp [back, BitVec.getLsbD_eq_getElem hi]

/-- The codes of a MAP WRITE read back (R175). -/
theorem halvesOf_flatMap (codes : List Half) : halvesOf (codes.flatMap halfBytes) = codes := by
  induction codes with
  | nil => rfl
  | cons c rest ih =>
    have bytes : (c :: rest).flatMap halfBytes = c.extractLsb' 8 8 :: c.extractLsb' 0 8 :: rest.flatMap halfBytes := rfl
    rw [bytes, halvesOf, halfOf_extract, ih]

/-- A record of a known kind and an allowed length is read by its kind (R154, R155). -/
theorem decodeRecord_requestRecord {k : Byte} {body : List Byte} (allowed : allowedLength k body.length = true)
    (known : knownKind k = true := by rfl) : decodeRecord (requestRecord k body) = decodeBody k body := by
  have known' := (knownKind_iff k).1 known
  have bounded : body.length ≤ maxBody := le_maxBody_of_allowed known' allowed
  have length : (BitVec.ofNat 16 body.length).toNat = body.length := by
    unfold maxBody at bounded
    rw [BitVec.toNat_ofNat]
    omega
  show decodeHeaded k (halfOf _ _) body = _
  rw [halfOf_extract]
  unfold decodeHeaded
  dsimp only
  rw [length, if_neg (Nat.not_lt.2 bounded), min_self, malformedReason_known known', if_pos allowed, if_neg (lt_irrefl _),
    List.take_length]

/-- The record of the command, if it has one, is read as that command. -/
def ReadsBack (i : Instr) : Prop := ∀ bytes, encodeRecord i = some bytes → decodeRecord bytes = some i

theorem readsBack_of {i : Instr} {k : Byte} {body : List Byte} (decodes : decodeBody k body = some i)
    (allowed : allowedLength k body.length = true := by rfl) (encodes : encodeRecord i = some (requestRecord k body) := by rfl)
    (known : knownKind k = true := by rfl) : ReadsBack i := fun bytes e => by
  obtain rfl := Option.some.inj (encodes.symm.trans e)
  exact (decodeRecord_requestRecord allowed known).trans decodes

theorem readsBack_none {i : Instr} (none_ : encodeRecord i = none := by rfl) : ReadsBack i := fun bytes e => by
  rw [none_] at e
  cases e

theorem flatMap_halfBytes_length (codes : List Half) : (codes.flatMap halfBytes).length = 2 * codes.length := by
  induction codes with
  | nil => rfl
  | cons c rest ih =>
    rw [List.flatMap_cons, List.length_append, ih, List.length_cons]
    show 2 + _ = _
    omega

theorem readsBack_linkSettings (wr : Byte) (c : CarriedSettings) : ReadsBack (.linkSettings wr c) :=
  readsBack_of (k := Kind.linkSettings) (body := wr :: settingsBytes c)
    (by show decodeLinkSettings (wr :: settingsBytes c) = _; simp [decodeLinkSettings, settingsBytes, halfBytes, halfOf_extract])

theorem readsBack_frameSend {d : Half} {c h : Byte} {p : List Byte} (low : 1 ≤ p.length) (high : p.length ≤ 1440) :
    ReadsBack (.frameSend d c h p) := by
  have length : (halfBytes d ++ [c, h] ++ p).length = 4 + p.length := by
    simp [halfBytes]
    omega
  refine readsBack_of (k := Kind.frameSend) (body := halfBytes d ++ [c, h] ++ p) ?_ ?_
  · show decodeFrameSend (_ :: _ :: c :: h :: p) = _
    rw [decodeFrameSend, halfOf_extract]
  · rw [length]
    show (decide (5 ≤ 4 + p.length) && decide (4 + p.length ≤ 1444)) = true
    simp
    omega

theorem readsBack_mapWrite {m f p : Byte} {check : Half} {codes : List Half} (low : 1 ≤ codes.length) (high : codes.length ≤ 32) :
    ReadsBack (.mapWrite m f p check codes) := by
  have length : ([m, f, p] ++ halfBytes check ++ codes.flatMap halfBytes).length = 5 + 2 * codes.length := by
    rw [List.length_append, flatMap_halfBytes_length]
    rfl
  refine readsBack_of (k := Kind.mapWrite) (body := [m, f, p] ++ halfBytes check ++ codes.flatMap halfBytes) ?_ ?_
  · show decodeMapWrite (m :: f :: p :: _ :: _ :: codes.flatMap halfBytes) = _
    rw [decodeMapWrite, halfOf_extract, halvesOf_flatMap]
  · rw [length]
    show (decide (7 ≤ 5 + 2 * codes.length) && decide (5 + 2 * codes.length ≤ 69) && (5 + 2 * codes.length) % 2 == 1) = true
    simp
    omega

theorem restartOf_range {form : Byte} (zero : form ≠ 0) (one : form ≠ 1) : restartOf form = .restartRange form := by
  have zero : form.toNat ≠ 0 := fun e => zero (BitVec.eq_of_toNat_eq e)
  have one : form.toNat ≠ 1 := fun e => one (BitVec.eq_of_toNat_eq e)
  unfold restartOf
  split
  · next e => exact absurd e zero
  · next e => exact absurd e one
  · rfl

/-- A request whose body is its fields, each in its bytes, reads back field by field. -/
theorem readsBack_of_wf {i : Instr} (wf : i.wf = true) : ReadsBack i := by
  have two := fun h : Half => halfOf_extract h
  cases i with
  | linkSettings wr c => exact readsBack_linkSettings wr c
  | frameSend d c h p =>
    simp only [Instr.wf, Bool.and_eq_true, decide_eq_true_eq] at wf
    exact readsBack_frameSend wf.1 wf.2
  | mapWrite m f p check codes =>
    simp only [Instr.wf, Bool.and_eq_true, decide_eq_true_eq] at wf
    exact readsBack_mapWrite wf.1 wf.2
  | neighbourEnrol i n hint cap =>
    exact readsBack_of (k := Kind.neighbourEnrol) (body := [i] ++ halfBytes n ++ [hint, cap]) (congrArg (fun n => some (Instr.neighbourEnrol i n hint cap)) (two n))
  | neighbourRetire i => exact readsBack_of (k := Kind.neighbourRetire) (body := [i]) rfl
  | neighbourConfirm i => exact readsBack_of (k := Kind.neighbourConfirm) (body := [i]) rfl
  | neighbourQuery i c => exact readsBack_of (k := Kind.neighbourQuery) (body := [i, c]) rfl
  | lookup k => exact readsBack_of (k := Kind.lookup) (body := keyBytes k) (congrArg (fun d => some (Instr.lookup ⟨d, k.cls, k.ing⟩)) (two k.dest))
  | find st any k =>
    have other : st ≠ 0 := by simpa [Instr.wf] using wf
    refine readsBack_of (k := Kind.find) (body := [st, any] ++ keyBytes k) ?_
    show (if st = 0 then _ else _) = _
    rw [if_neg other]
    exact congrArg (fun d => some (Instr.find st any ⟨d, k.cls, k.ing⟩)) (two k.dest)
  | findFree any k =>
    exact readsBack_of (k := Kind.find) (body := [0, any] ++ keyBytes k) (congrArg (fun d => some (Instr.findFree any ⟨d, k.cls, k.ing⟩)) (two k.dest))
  | entryWrite i e =>
    refine readsBack_of (k := Kind.entryWrite) (body := halfBytes i ++ carriedEntryBytes e) ?_
    show some (Instr.entryWrite (halfOf _ _) ⟨⟨halfOf _ _, _, _⟩, _, _, _⟩) = _
    rw [two, two]
  | entryPlace e =>
    exact readsBack_of (k := Kind.entryPlace) (body := carriedEntryBytes e)
      (congrArg (fun d => some (Instr.entryPlace ⟨⟨d, e.key.cls, e.key.ing⟩, e.action, e.hop, e.state⟩)) (two e.key.dest))
  | entryRead i => exact readsBack_of (k := Kind.entryRead) (body := halfBytes i) (congrArg (fun i => some (Instr.entryRead i)) (two i))
  | entryState t st => exact readsBack_of (k := Kind.entryState) (body := halfBytes t ++ [st]) (congrArg (fun t => some (Instr.entryState t st)) (two t))
  | tableClear sc => exact readsBack_of (k := Kind.tableClear) (body := [sc]) rfl
  | maskSet p i c g =>
    exact readsBack_of (k := Kind.maskSet) (body := [p] ++ halfBytes i ++ [c, g]) (congrArg (fun i => some (Instr.maskSet p i c g)) (two i))
  | maskSelect p => exact readsBack_of (k := Kind.maskSelect) (body := [p]) rfl
  | counters c => exact readsBack_of (k := Kind.counters) (body := [c]) rfl
  | slotLength v => exact readsBack_of (k := Kind.slotLength) (body := halfBytes v) (congrArg (fun v => some (Instr.slotLength v)) (two v))
  | mapRead m => exact readsBack_of (k := Kind.mapRead) (body := [m]) rfl
  | mapSwitch => exact readsBack_of (k := Kind.mapSwitch) (body := []) rfl
  | scheduleStart => exact readsBack_of (k := Kind.scheduleStart) (body := []) rfl
  | scheduleStop => exact readsBack_of (k := Kind.scheduleStop) (body := []) rfl
  | timingSet i => exact readsBack_of (k := Kind.timingSet) (body := [i]) rfl
  | scanSet m a b x y => exact readsBack_of (k := Kind.scanSet) (body := [m, a, b, x, y]) rfl
  | scanStart => exact readsBack_of (k := Kind.scanStart) (body := []) rfl
  | scanHalt => exact readsBack_of (k := Kind.scanHalt) (body := []) rfl
  | identify n e => exact readsBack_of (k := Kind.identify) (body := halfBytes n ++ [e]) (congrArg (fun n => some (Instr.identify n e)) (two n))
  | status => exact readsBack_of (k := Kind.status) (body := []) rfl
  | restartWarm => exact readsBack_of (k := Kind.restart) (body := [1]) rfl
  | restartCold => exact readsBack_of (k := Kind.restart) (body := [0]) rfl
  | restartRange form =>
    simp only [Instr.wf, Bool.and_eq_true, bne_iff_ne] at wf
    exact readsBack_of (k := Kind.restart) (body := [form]) (congrArg some (restartOf_range wf.1 wf.2))
  | _ => exact readsBack_none

end Sys2Proof.Machine

namespace Sys2Proof.Proofs

open Sys2Proof Sys2Proof.Machine

/-- Settles O10: header, length and body of a record give its request back. -/
theorem recordsDecodeToTheirRequests : Obligations.RecordsDecodeToTheirRequests :=
  fun _ bytes wf encodes => readsBack_of_wf wf bytes encodes

end Sys2Proof.Proofs
end

section
/-! What the fields of requests name (R175), and the neighbour and path requests that follow from it (R29 to R33, R43 to R56). -/

namespace Sys2Proof.Machine

open Sys2Proof

/-! ### Fields -/

theorem below_of_lt {n v : Nat} (h : v < n) : below n v = some ⟨v, h⟩ := dif_pos h

theorem below_of_le {n v : Nat} (h : n ≤ v) : below n v = none := dif_neg (Nat.not_lt.2 h)

/-- A number below `n` carried in a field that holds it is read back. -/
theorem below_ofNat {n w : Nat} (fits : n ≤ 2 ^ w) (i : Fin n) : below n (BitVec.ofNat w i.val).toNat = some i := by
  have back : (BitVec.ofNat w i.val).toNat = i.val := by
    rw [BitVec.toNat_ofNat]
    exact Nat.mod_eq_of_lt (i.isLt.trans_le fits)
  rw [back]
  exact below_of_lt i.isLt

theorem nbrOf_ofNat (n : NbrIdx) : nbrOf (BitVec.ofNat 8 n.val) = some n := below_ofNat (by decide) n

theorem nbrOf_high {b : Byte} (h : 16 ≤ b.toNat) : nbrOf b = none := below_of_le h

theorem entryIdxOf_ofNat (i : EntryIdx) : entryIdxOf (BitVec.ofNat 16 i.val) = some i := below_ofNat (by decide) i

theorem entryIdxOf_high {h : Half} (high : 255 < h.toNat) : entryIdxOf h = none := below_of_le high

theorem sectorOf_ofNat (x : Sector) : sectorOf (BitVec.ofNat 8 x.val) = some x := below_ofNat (by decide) x

/-- An ingress in its range. -/
theorem ingressOf_legal {b : Byte} (h : b.toNat ≤ 16) :
    ingressOf b = some (if low : b.toNat < 16 then .nbr ⟨b.toNat, low⟩ else .host) := by
  unfold ingressOf
  split
  · rfl
  · exact if_pos (by omega)

theorem ingressOf_high {b : Byte} (h : 16 < b.toNat) : ingressOf b = none := by
  unfold ingressOf
  rw [dif_neg (by omega), if_neg (by omega)]

theorem keyOf_legal {c : CarriedKey} (dest : c.dest.toNat ≤ 4095) (cls : c.cls.toNat ≤ 7) (ing : c.ing.toNat ≤ 16) :
    keyOf c = some { dest := c.dest.setWidth 12, cls := c.cls.setWidth 3,
                     ing := if low : c.ing.toNat < 16 then .nbr ⟨c.ing.toNat, low⟩ else .host } := by
  unfold keyOf
  rw [if_pos ⟨dest, cls⟩, ingressOf_legal ing]
  rfl

theorem keyOf_illegal {c : CarriedKey} (h : ¬ (c.dest.toNat ≤ 4095 ∧ c.cls.toNat ≤ 7 ∧ c.ing.toNat ≤ 16)) : keyOf c = none := by
  unfold keyOf
  split
  · next low =>
    rw [ingressOf_high (by omega)]
    rfl
  · rfl

/-- A key carried as R175 has it is the key taken. -/
theorem keyOf_key (k : Key) :
    keyOf { dest := k.dest.setWidth 16, cls := k.cls.setWidth 8, ing := BitVec.ofNat 8 k.ing.number } = some k := by
  obtain ⟨dest, cls, ing⟩ := k
  have dest_lt := dest.isLt
  have cls_lt := cls.isLt
  have number : ing.number ≤ 16 := by
    cases ing with
    | nbr n => exact n.isLt.le
    | host => exact Nat.le_refl _
  have carried : (BitVec.ofNat 8 ing.number).toNat = ing.number := by
    rw [BitVec.toNat_ofNat]
    omega
  rw [keyOf_legal (by simp only [BitVec.toNat_setWidth]; omega) (by simp only [BitVec.toNat_setWidth]; omega) (by rw [carried]; exact number)]
  simp only [carried, BitVec.setWidth_setWidth_of_le, BitVec.setWidth_eq, Nat.reduceLeDiff, Option.some.injEq, Key.mk.injEq, true_and]
  cases ing with
  | nbr n => exact dif_pos n.isLt
  | host => rfl

theorem entryStateOf_other {b : Byte} (one : b ≠ 1) (three : b ≠ 3) :
    entryStateOf b = none ∨ entryStateOf b = some none ∨ entryStateOf b = some (some .parked) := by
  unfold entryStateOf
  split
  · exact .inr (.inl rfl)
  · next e => exact absurd (BitVec.eq_of_toNat_eq e) one
  · exact .inr (.inr rfl)
  · next e => exact absurd (BitVec.eq_of_toNat_eq e) three
  · exact .inl rfl

theorem entryStateOf_high {b : Byte} (h : 3 < b.toNat) : entryStateOf b = none := by
  unfold entryStateOf
  split
  case h_5 => rfl
  all_goals omega

theorem actionOf_none {a hop : Byte} (h : 2 < a.toNat ∨ (a = 0 ∧ 15 < hop.toNat)) : actionOf a hop = none := by
  obtain high | ⟨rfl, high⟩ := h
  · unfold actionOf
    split
    case h_4 => rfl
    all_goals omega
  · show (nbrOf hop).map Action.forward = none
    rw [nbrOf_high high]
    rfl

/-- An action carried as R175 has it is the action taken. -/
theorem actionOf_action {a : Action} {hop : Byte} (named : ∀ n, a = .forward n → hop = BitVec.ofNat 8 n.val) :
    actionOf (BitVec.ofNat 8 a.number) hop = some a := by
  cases a with
  | forward n =>
    rw [named n rfl]
    show (nbrOf _).map Action.forward = _
    rw [nbrOf_ofNat]
    rfl
  | deliver => rfl
  | discard => rfl

/-- One field out of its range is enough for the refusal of R51. -/
theorem wantedOf_none {e : CarriedEntry} (bad : keyOf e.key = none ∨ actionOf e.action e.hop = none ∨ (e.state ≠ 1 ∧ e.state ≠ 3)) :
    wantedOf e = none := by
  unfold wantedOf
  obtain key | action | ⟨one, three⟩ := bad
  · rw [key]
  · rw [action]
    cases keyOf e.key <;> rfl
  · obtain st | st | st := entryStateOf_other one three <;> rw [st] <;>
      cases keyOf e.key <;> cases actionOf e.action e.hop <;> rfl

theorem targetOf_ofNat (i : EntryIdx) : targetOf (BitVec.ofNat 16 i.val) = some (.index i) := by
  have notLast : BitVec.ofNat 16 i.val ≠ 0xFFFE := fun e => by
    have := congrArg BitVec.toNat e
    rw [BitVec.toNat_ofNat, Nat.mod_eq_of_lt (by omega)] at this
    have last : (0xFFFE : Half).toNat = 65534 := rfl
    omega
  unfold targetOf
  rw [if_neg notLast, entryIdxOf_ofNat]
  rfl

theorem targetOf_high {t : Half} (high : 255 < t.toNat) (notLast : t ≠ 0xFFFE) : targetOf t = none := by
  unfold targetOf
  rw [if_neg notLast, entryIdxOf_high high]
  rfl

theorem targetStateOf_other {b : Byte} (zero : b ≠ 0) (one : b ≠ 1) (three : b ≠ 3) : targetStateOf b = none := by
  unfold targetStateOf
  split
  · next e => exact absurd (BitVec.eq_of_toNat_eq e) zero
  · next e => exact absurd (BitVec.eq_of_toNat_eq e) one
  · next e => exact absurd (BitVec.eq_of_toNat_eq e) three
  · rfl

/-! ### Lookups and searches -/

/-- An entry is a candidate of a search by its state and, where one is asked for, its key. -/
theorem entryMatches_iff (p : Mask) (st : RouteState) (q : Option Key) (e : Entry) :
    entryMatches p st q e = true ↔ ∃ r, e = some r ∧ r.state = st ∧ ∀ k, q = some k → p.matches r.key k = true := by
  cases e with
  | none => exact ⟨(fun h => nomatch h), (fun ⟨_, h, _⟩ => nomatch h)⟩
  | some r =>
    unfold entryMatches
    cases q with
    | none => simp
    | some k => simp

/-- A second candidate beside a first. -/
theorem Tab.two_le_count {α : Type} {n : Nat} {t : Tab α n} {p : α → Bool} {i : Fin n} (hi : p (t.look i) = true) :
    2 ≤ t.count p ↔ ∃ j, j ≠ i ∧ p (t.look j) = true := by
  have nodup : ((List.finRange n).filter fun i => p (t.look i)).Nodup := (List.nodup_finRange n).filter _
  have mem : i ∈ (List.finRange n).filter fun i => p (t.look i) := by simpa using hi
  have shorter := List.length_erase_of_mem mem
  have positive := List.length_pos_of_mem mem
  have others : 2 ≤ t.count p ↔ 0 < (((List.finRange n).filter fun i => p (t.look i)).erase i).length := by
    unfold Tab.count
    omega
  rw [others, List.length_pos_iff_exists_mem]
  refine exists_congr fun j => ?_
  rw [nodup.mem_erase_iff, List.mem_filter]
  simp

section
variable {s : State}

/-- What a search answers where there is a lowest candidate. -/
theorem State.search_found {kind : Byte} {p : Entry → Bool} {i : EntryIdx} (here : p (s.entry i) = true)
    (lowest : ∀ j, j < i → p (s.entry j) = false) :
    s.search kind p = (s.setLast (some i)).reply kind .ok (.found i (decide (2 ≤ s.path.entries.count p)) (s.entry i)) := by
  unfold State.search
  rw [Tab.lowest_eq_some.2 ⟨here, lowest⟩]

theorem State.search_none {kind : Byte} {p : Entry → Bool} (none_ : ∀ i, p (s.entry i) = false) :
    s.search kind p = (s.setLast none).reply kind .nomatch .empty := by
  unfold State.search
  rw [Tab.lowest_eq_none.2 none_]

/-- The answer of a request that is a search, in the words of R47 to R50. -/
theorem searched {command : Instr} {kind : Byte} {p : Entry → Bool} {candidate : EntryIdx → Prop}
    (ran : exec command s = .next ((s.setPhase .spent).search kind p)) (iff : ∀ i, p (s.entry i) = true ↔ candidate i) :
    (∀ i, candidate i → (∀ j, j < i → ¬ candidate j) → ∃ multiple : Bool,
        (multiple = true ↔ ∃ j, j ≠ i ∧ candidate j)
          ∧ exec command s = .next
            ({ s with path := { s.path with lastMatch := some i } }.answered kind .ok (.found i multiple (s.entry i))))
      ∧ ((∀ i, ¬ candidate i) → exec command s = .next
          ({ s with path := { s.path with lastMatch := none } }.answered kind .nomatch .empty)) := by
  have not_iff : ∀ i, ¬ candidate i ↔ p (s.entry i) = false := fun i => by rw [← iff, Bool.not_eq_true]
  refine ⟨fun i here lowest => ⟨decide (2 ≤ s.path.entries.count p), ?_, ?_⟩, fun none_ => ?_⟩
  · rw [decide_eq_true_iff]
    refine (Tab.two_le_count ((iff i).2 here)).trans (exists_congr fun j => and_congr_right fun _ => iff j)
  · rw [ran, State.search_found (s := s.setPhase .spent) ((iff i).2 here) fun j lt => (not_iff j).1 (lowest j lt)]
    rfl
  · rw [ran, State.search_none (s := s.setPhase .spent) fun i => (not_iff i).1 (none_ i)]
    rfl

/-! ### What a write stores -/

/-- The next hop of an action is usable unless its neighbour is VACANT. -/
theorem State.hopUsable_iff (s : State) (a : Action) : s.hopUsable a = true ↔ ¬ ∃ n, a = .forward n ∧ (s.nbr n).state = .vacant := by
  unfold State.hopUsable
  cases a <;> simp

theorem State.liveState_down {a : Action} (down : ∃ n, a = .forward n ∧ (s.nbr n).state ≠ .up) : s.liveState a = .parked := by
  obtain ⟨n, rfl, notUp⟩ := down
  exact if_neg notUp

theorem State.liveState_up {a : Action} (up : ¬ ∃ n, a = .forward n ∧ (s.nbr n).state ≠ .up) : s.liveState a = .live := by
  cases a with
  | forward n => exact if_pos (not_not.1 fun notUp => up ⟨n, rfl, notUp⟩)
  | deliver => rfl
  | discard => rfl

/-- A target of ENTRY STATE and the index it stands for. -/
theorem State.target_names {t : Half} {i : EntryIdx} (h : t = BitVec.ofNat 16 i.val ∨ (t = 0xFFFE ∧ s.path.lastMatch = some i)) :
    ∃ x, targetOf t = some x ∧ s.targetIndex x = some i := by
  obtain rfl | ⟨rfl, last⟩ := h
  · exact ⟨_, targetOf_ofNat i, rfl⟩
  · exact ⟨.last, rfl, last⟩

end

end Sys2Proof.Machine

namespace Sys2Proof.Proofs

open Sys2Proof Sys2Proof.Machine

/-- Settles O22: the winner is the lowest candidate of a LIVE search. -/
theorem frameLookupTakesTheLowestLiveMatch : Obligations.FrameLookupTakesTheLowestLiveMatch := by
  intro s q p claims
  have claims_iff : ∀ i, entryMatches s.path.mask .live (some q) (s.entry i) = true ↔ ∃ r, claims i r := fun i => by
    rw [entryMatches_iff]
    exact exists_congr fun r => and_congr_right fun _ => and_congr_right fun _ => ⟨fun h => h q rfl, fun h k e => Option.some.inj e ▸ h⟩
  have not_claims : ∀ i, (∀ r, ¬ claims i r) → entryMatches s.path.mask .live (some q) (s.entry i) = false := fun i none_ => by
    rw [← Bool.not_eq_true, claims_iff]
    exact fun ⟨r, h⟩ => none_ r h
  constructor
  · intro i r here lowest
    have winner : s.path.winner q = some i :=
      Tab.lowest_eq_some.2 ⟨(claims_iff i).2 ⟨r, here⟩, fun j lt => not_claims j fun r' => lowest j r' lt⟩
    unfold State.frameLookup
    rw [winner]
    dsimp only
    rw [here.1]
    rfl
  · intro none_
    have winner : s.path.winner q = none := Tab.lowest_eq_none.2 fun i => not_claims i (none_ i)
    unfold State.frameLookup
    rw [winner]

/-- Settles O23: each request is one search, or is refused by a field out of its range. -/
theorem searchesFindTheLowestCandidate : Obligations.SearchesFindTheLowestCandidate := by
  intro s c accepting p legal ingress key finds isIn isInFor
  have key_legal : legal → keyOf c = some key := fun ⟨dest, cls, ing⟩ => keyOf_legal dest cls ing
  have key_illegal : ¬ legal → keyOf c = none := keyOf_illegal
  have in_iff : ∀ st i, entryMatches s.path.mask st none (s.entry i) = true ↔ isIn st i := fun st i => by
    rw [entryMatches_iff]
    exact exists_congr fun r => and_congr_right fun _ => and_iff_left fun k e => nomatch e
  have inFor_iff : ∀ st i, entryMatches s.path.mask st (some key) (s.entry i) = true ↔ isInFor st i := fun st i => by
    rw [entryMatches_iff]
    exact exists_congr fun r => and_congr_right fun _ => and_congr_right fun _ => ⟨fun h => h key rfl, fun h k e => Option.some.inj e ▸ h⟩
  have look : exec (.lookup c) s = .next ((s.setPhase .spent).lookupRequest c) := exec_taken (c := .lookup c) rfl accepting
  have find : ∀ st any, exec (.find st any c) s = .next ((s.setPhase .spent).findRequest st any c) := fun st any =>
    exec_taken (c := .find st any c) rfl accepting
  have free : ∀ any, exec (.findFree any c) s = .next ((s.setPhase .spent).findFreeRequest any) := fun any =>
    exec_taken (c := .findFree any c) rfl accepting
  refine ⟨fun ok => searched ?_ (inFor_iff .live), fun bad => ?_, fun st listed => ?_, fun any one => ⟨?_, ?_⟩, fun st any bad => ?_,
    fun any bad => ?_⟩
  · rw [look]
    unfold State.lookupRequest
    rw [key_legal ok]
    rfl
  · rw [look]
    unfold State.lookupRequest
    rw [key_illegal bad]
    rfl
  · have named : entryStateOf st.1 = some (some st.2) := by
      revert st
      decide
    refine ⟨searched ?_ (in_iff st.2), fun ok => searched ?_ (inFor_iff st.2), fun bad => ?_⟩
    · rw [find]
      unfold State.findRequest
      rw [named, flagOf_one]
      rfl
    · rw [find]
      unfold State.findRequest
      rw [named, flagOf_zero]
      dsimp only
      rw [key_legal ok]
      rfl
    · rw [find]
      unfold State.findRequest
      rw [named, flagOf_zero]
      dsimp only
      rw [key_illegal bad]
      rfl
  · refine searched (p := Option.isNone) ?_ fun i => Option.isNone_iff_eq_none
    rw [free]
    obtain rfl | rfl := one <;> rfl
  · rw [find, free]
    rfl
  · rw [find]
    unfold State.findRequest
    obtain high | high := bad
    · rw [entryStateOf_high high]
      cases flagOf any <;> rfl
    · rw [flagOf_eq_none high]
      cases entryStateOf st with
      | none => rfl
      | some st =>
        cases st with
        | none =>
          dsimp only
          unfold State.findFreeRequest
          rw [flagOf_eq_none high]
          rfl
        | some st => rfl
  · rw [free]
    unfold State.findFreeRequest
    rw [flagOf_eq_none bad]
    rfl

end Sys2Proof.Proofs
end

section
/-! The entry requests (R51 to R56, R61). -/

namespace Sys2Proof.Machine

open Sys2Proof

/-- A write asked for with legal fields, as R175 carries it. -/
theorem wantedOf_wanted (key : Key) (action : Action) (hop : Byte) (barred : Bool)
    (named : ∀ n, action = .forward n → hop = BitVec.ofNat 8 n.val) :
    wantedOf
      { key := { dest := key.dest.setWidth 16, cls := key.cls.setWidth 8, ing := BitVec.ofNat 8 key.ing.number }
        action := BitVec.ofNat 8 action.number, hop := hop, state := if barred then 3 else 1 }
      = some { key := key, action := action, barred := barred } := by
  have st : entryStateOf (if barred then 3 else 1) = some (some (if barred then .barred else .live)) := by cases barred <;> rfl
  unfold wantedOf
  dsimp only
  rw [keyOf_key, actionOf_action named, st]
  cases barred <;> rfl

section
variable {s : State}

theorem State.routeFor_barred (key : Key) (action : Action) :
    s.routeFor { key := key, action := action, barred := true } = { state := .barred, key := key, action := action, hits := 0 } := rfl

theorem State.routeFor_up (key : Key) {action : Action} (up : ¬ ∃ n, action = .forward n ∧ (s.nbr n).state ≠ .up) :
    s.routeFor { key := key, action := action, barred := false } = { state := .live, key := key, action := action, hits := 0 } := by
  unfold State.routeFor
  rw [State.liveState_up up]
  rfl

theorem State.routeFor_down (key : Key) {action : Action} (down : ∃ n, action = .forward n ∧ (s.nbr n).state ≠ .up) :
    s.routeFor { key := key, action := action, barred := false } = { state := .parked, key := key, action := action, hits := 0 } := by
  unfold State.routeFor
  rw [State.liveState_down down]
  rfl

/-- What a store leaves, once its route is known. -/
theorem State.storeRoute_eq {kind : Byte} {i : EntryIdx} {w : WantedEntry} {r : Route} (route : s.routeFor w = r) :
    (s.setPhase .spent).storeRoute kind i w =
      { s with path := { s.path with entries := s.path.entries.put i (some r) } }.answered kind (storedCode r)
        (.entryAt i (s.entry i) (some r)) := by
  subst route
  rfl

/-- An ENTRY WRITE with legal fields. -/
theorem State.entryWrite_eq {i : EntryIdx} {e : CarriedEntry} {w : WantedEntry} (wanted : wantedOf e = some w) :
    s.entryWrite (BitVec.ofNat 16 i.val) e =
      if s.hopUsable w.action then s.storeRoute Kind.entryWrite i w
      else s.reply Kind.entryWrite .state (.entry (s.entry i)) := by
  unfold State.entryWrite
  rw [entryIdxOf_ofNat, wanted]

theorem State.entryPlace_unusable {e : CarriedEntry} {w : WantedEntry} (wanted : wantedOf e = some w)
    (unusable : ¬ s.hopUsable w.action = true) : s.entryPlace e = s.reply Kind.entryPlace .state .empty := by
  unfold State.entryPlace
  rw [wanted]
  exact if_neg unusable

theorem State.entryPlace_full {e : CarriedEntry} {w : WantedEntry} (wanted : wantedOf e = some w)
    (usable : s.hopUsable w.action = true) (full : s.path.nextFree = none) :
    s.entryPlace e = s.reply Kind.entryPlace .full .empty := by
  unfold State.entryPlace
  rw [wanted]
  dsimp only
  rw [if_pos usable, full]

theorem State.entryPlace_stored {e : CarriedEntry} {w : WantedEntry} {i : EntryIdx} (wanted : wantedOf e = some w)
    (usable : s.hopUsable w.action = true) (free : s.path.nextFree = some i) :
    s.entryPlace e = s.storeRoute Kind.entryPlace i w := by
  unfold State.entryPlace
  rw [wanted]
  dsimp only
  rw [if_pos usable, free]

/-- An ENTRY STATE on a target that stands for an index. -/
theorem State.entryStateRequest_target {t : Half} {i : EntryIdx}
    (target : t = BitVec.ofNat 16 i.val ∨ (t = 0xFFFE ∧ s.path.lastMatch = some i)) (st : Byte) :
    s.entryStateRequest t st = match targetStateOf st with
      | none => s.reply Kind.entryState .range (.entry (s.entry i))
      | some x => s.entryStateAt i x := by
  obtain ⟨x, names, index⟩ := State.target_names target
  unfold State.entryStateRequest
  rw [names]
  dsimp only
  rw [index]
  cases targetStateOf st <;> rfl

theorem State.unbar_kept {r : Route} (h : r.state ≠ .barred) : s.unbar r = r := if_neg h

theorem State.unbar_barred {r : Route} (h : r.state = .barred) : s.unbar r = { r with state := s.liveState r.action } := if_pos h

end

/-! ### Bytes of an entry -/

theorem BitVec.ofNat_toNat_setWidth {w v : Nat} (x : BitVec w) : BitVec.ofNat v x.toNat = x.setWidth v := by
  apply BitVec.eq_of_toNat_eq
  simp

theorem optOne_eq {n : Nat} (x : Option (Fin n)) : optOne x = [BitVec.ofNat 8 ((x.map Fin.val).getD 0xFF)] := by
  cases x <;> rfl

end Sys2Proof.Machine

namespace Sys2Proof.Proofs

open Sys2Proof Sys2Proof.Machine

/-- Settles O24: the fields as a wanted entry, then the route that it resolves to. -/
theorem writesStoreTheResolvedEntry : Obligations.WritesStoreTheResolvedEntry := by
  refine ⟨fun s index e accepting => ?_, fun s key action hopByte barred accepting named => ?_⟩
  · intro bad
    have place : exec (.entryPlace e) s = .next ((s.setPhase .spent).entryPlace e) := exec_taken (c := .entryPlace e) rfl accepting
    have write : ∀ index, exec (.entryWrite index e) s = .next ((s.setPhase .spent).entryWrite index e) := fun index =>
      exec_taken (c := .entryWrite index e) rfl accepting
    have unwanted : bad → wantedOf e = none := fun bad => by
      refine wantedOf_none ?_
      obtain dest | cls | ing | action | hop | st := bad
      · exact .inl (keyOf_illegal (by omega))
      · exact .inl (keyOf_illegal (by omega))
      · exact .inl (keyOf_illegal (by omega))
      · exact .inr (.inl (actionOf_none (.inl action)))
      · exact .inr (.inl (actionOf_none (.inr hop)))
      · exact .inr (.inr st)
    refine ⟨fun h => ?_, fun high => ?_, fun h i => ?_⟩
    · rw [place]
      unfold State.entryPlace
      rw [unwanted h]
      rfl
    · rw [write]
      unfold State.entryWrite
      rw [entryIdxOf_high high]
      rfl
    · rw [write]
      unfold State.entryWrite
      rw [entryIdxOf_ofNat, unwanted h]
      rfl
  · intro carried down vacant stored
    have wanted : wantedOf carried = some { key := key, action := action, barred := barred } :=
      wantedOf_wanted key action hopByte barred named
    have usable : ¬ vacant → (s.setPhase .spent).hopUsable action = true := fun h => (State.hopUsable_iff _ action).2 h
    have unusable : vacant → ¬ (s.setPhase .spent).hopUsable action = true := fun h e => (State.hopUsable_iff _ action).1 e h
    have write : ∀ i : EntryIdx, exec (.entryWrite (BitVec.ofNat 16 i.val) carried) s = .next
        (if (s.setPhase .spent).hopUsable action then (s.setPhase .spent).storeRoute Kind.entryWrite i ⟨key, action, barred⟩
         else (s.setPhase .spent).reply Kind.entryWrite .state (.entry (s.entry i))) := fun i =>
      (exec_taken (c := .entryWrite (BitVec.ofNat 16 i.val) carried) rfl accepting).trans
        (congrArg _ (State.entryWrite_eq (s := s.setPhase .spent) wanted))
    have place : exec (.entryPlace carried) s = .next ((s.setPhase .spent).entryPlace carried) :=
      exec_taken (c := .entryPlace carried) rfl accepting
    have stores : ∀ (i : EntryIdx) (kind : Byte),
        (barred = true → (s.setPhase .spent).storeRoute kind i ⟨key, action, barred⟩ = stored i .barred kind .ok)
          ∧ (barred = false → ¬ down → (s.setPhase .spent).storeRoute kind i ⟨key, action, barred⟩ = stored i .live kind .ok)
          ∧ (barred = false → down →
              (s.setPhase .spent).storeRoute kind i ⟨key, action, barred⟩ = stored i .parked kind .parked) := fun i kind => by
      refine ⟨?_, ?_, ?_⟩
      · rintro rfl
        exact State.storeRoute_eq (s.routeFor_barred key action)
      · rintro rfl up
        exact State.storeRoute_eq (State.routeFor_up key up)
      · rintro rfl isDown
        exact State.storeRoute_eq (State.routeFor_down key isDown)
    refine ⟨fun i => ⟨fun v => ?_, fun v b => ?_, fun v b up => ?_, fun v b d => ?_⟩, fun v => ?_, fun v full => ?_,
      fun i v free lowest => ?_⟩
    · rw [write, if_neg (unusable v)]
      rfl
    · rw [write, if_pos (usable v), (stores i _).1 b]
      rfl
    · rw [write, if_pos (usable v), (stores i _).2.1 b up]
      rfl
    · rw [write, if_pos (usable v), (stores i _).2.2 b d]
      rfl
    · rw [place, State.entryPlace_unusable wanted (unusable v)]
      rfl
    · have none_ : (s.setPhase .spent).path.nextFree = none :=
        Tab.lowest_eq_none.2 fun i => Option.isNone_eq_false_iff.2 (Option.isSome_iff_ne_none.2 (full i))
      rw [place, State.entryPlace_full wanted (usable v) none_]
      rfl
    · have first : (s.setPhase .spent).path.nextFree = some i :=
        Tab.lowest_eq_some.2 ⟨Option.isNone_iff_eq_none.2 free,
          fun j lt => Option.isNone_eq_false_iff.2 (Option.isSome_iff_ne_none.2 (lowest j lt))⟩
      rw [place, State.entryPlace_stored wanted (usable v) first]
      refine ⟨fun b => ?_, fun b up => ?_, fun b d => ?_⟩
      · rw [(stores i _).1 b]
        rfl
      · rw [(stores i _).2.1 b up]
        rfl
      · rw [(stores i _).2.2 b d]
        rfl

/-- Settles O25: the reply as it stands, and the bytes field by field. -/
theorem entryReadReportsTheEntry : Obligations.EntryReadReportsTheEntry := by
  have read : ∀ (s : State) index, s.accepting → exec (.entryRead index) s = .next ((s.setPhase .spent).entryReadRequest index) :=
    fun s index accepting => exec_taken (c := .entryRead index) rfl accepting
  refine ⟨fun s index accepting high => ?_, fun s i accepting => ?_, rfl, fun r => ?_⟩
  · rw [read s index accepting]
    unfold State.entryReadRequest
    rw [entryIdxOf_high high]
    rfl
  · rw [read s _ accepting]
    unfold State.entryReadRequest
    rw [entryIdxOf_ofNat]
    rfl
  · refine ⟨BitVec.ofNat 8 ((r.action.hop.map Fin.val).getD 0xFF), ?_, fun n forward => ?_, fun other => ?_⟩
    · show entryBytes (some r) = _
      unfold entryBytes twoBytes oneByte
      dsimp only
      rw [BitVec.ofNat_toNat_setWidth, BitVec.ofNat_toNat_setWidth, optOne_eq]
      simp only [List.append_assoc, List.cons_append, List.nil_append]
    · rw [forward]
      rfl
    · cases action : r.action with
      | forward n => exact absurd action (other n)
      | deliver => rfl
      | discard => rfl

/-- Settles O26: the target as an index, then the table of R56 by the entry's state. -/
theorem entryStateFollowsItsTable : Obligations.EntryStateFollowsItsTable := by
  intro s accepting target set
  have done : ∀ t st, exec (.entryState t st) s = .next ((s.setPhase .spent).entryStateRequest t st) := fun t st =>
    exec_taken (c := .entryState t st) rfl accepting
  refine ⟨fun t st high notLast => ?_, fun st last legal => ?_, fun st last zero one three => ?_, fun t i names => ?_⟩
  · rw [done]
    unfold State.entryStateRequest
    rw [targetOf_high high notLast]
    rfl
  · rw [done]
    unfold State.entryStateRequest
    have none_ : (s.setPhase .spent).targetIndex .last = none := last
    rw [show targetOf 0xFFFE = some .last from rfl]
    dsimp only
    rw [none_]
    obtain rfl | rfl | rfl := legal <;> rfl
  · rw [done]
    unfold State.entryStateRequest
    have none_ : (s.setPhase .spent).targetIndex .last = none := last
    rw [show targetOf 0xFFFE = some .last from rfl]
    dsimp only
    rw [none_, targetStateOf_other zero one three]
    rfl
  · have at_ : ∀ st, exec (.entryState t st) s = .next (match targetStateOf st with
        | none => (s.setPhase .spent).reply Kind.entryState .range (.entry (s.entry i))
        | some x => (s.setPhase .spent).entryStateAt i x) := fun st =>
      (done t st).trans (congrArg _ (State.entryStateRequest_target (s := s.setPhase .spent) names st))
    have entry : (s.setPhase .spent).entry i = s.entry i := rfl
    refine ⟨fun st zero one three => ?_, ?_, fun free => ?_, fun r here => ?_⟩
    · rw [at_, targetStateOf_other zero one three]
      rfl
    · exact at_ 0
    · have atFree : ∀ x, x ≠ .free → (s.setPhase .spent).entryStateAt i x = s.answered 0x0B .state (.entry none) := fun x other => by
        unfold State.entryStateAt
        rw [entry, free]
        cases x with
        | free => exact absurd rfl other
        | live => rfl
        | barred => rfl
      exact ⟨(at_ 1).trans (congrArg _ (atFree .live (fun e => nomatch e))),
        (at_ 3).trans (congrArg _ (atFree .barred (fun e => nomatch e)))⟩
    · have live : exec (.entryState t 1) s = .next (set i (some ((s.setPhase .spent).unbar r)) (storedCode ((s.setPhase .spent).unbar r))) := by
        refine (at_ 1).trans (congrArg _ ?_)
        show (s.setPhase .spent).entryStateAt i .live = _
        unfold State.entryStateAt
        simp only [set]
        rw [entry, here]
        rfl
      refine ⟨?_, fun state => ?_, fun state => ?_, fun state => ⟨fun down => ?_, fun up => ?_⟩⟩
      · refine (at_ 3).trans (congrArg _ ?_)
        show (s.setPhase .spent).entryStateAt i .barred = _
        unfold State.entryStateAt
        simp only [set]
        rw [entry, here]
        rfl
      · rw [live, State.unbar_kept (by rw [state]; decide), storedCode, if_neg (by rw [state]; decide)]
      · rw [live, State.unbar_kept (by rw [state]; decide), storedCode, if_pos state]
      · rw [live, State.unbar_barred state, State.liveState_down (s := s.setPhase .spent) down]
        rfl
      · rw [live, State.unbar_barred state, State.liveState_up (s := s.setPhase .spent) up]
        rfl

end Sys2Proof.Proofs
end

section
/-! The requests of the neighbour table (R29, R31 to R33) and time alignment (R130, R131, R133). -/

namespace Sys2Proof.Machine

open Sys2Proof

section
variable {s : State}

/-! ### Changes of state that park nothing -/

/-- A change of state that neither leaves nor enters UP nor enters LOST is the record and its notice (R22). -/
theorem State.changeState_quiet {n : NbrIdx} {new : LinkState} {cause : LinkCause} (old : (s.nbr n).state ≠ .up)
    (notUp : new ≠ .up) (notLost : new ≠ .lost) :
    s.changeState n new cause = (s.setNbr n { (s.nbr n).clearRuns with state := new }).postLink n cause none := by
  unfold State.changeState State.afterChange State.parkFor
  dsimp only
  rw [if_neg notLost, if_neg fun h => old h.1, if_neg fun h => notUp h.1]
  rfl

/-- A second write of a neighbour record replaces the first. -/
theorem State.setNbr_setNbr (n : NbrIdx) (r r' : Nbr) : (s.setNbr n r).setNbr n r' = s.setNbr n r' := by
  unfold State.setNbr
  rw [Tab.put_put]

/-- The LINK notice of a record just written. -/
theorem State.postLink_setNbr (n : NbrIdx) (r : Nbr) (cause : LinkCause) (rescue : Option Rescue) :
    (s.setNbr n r).postLink n cause rescue =
      (s.setNbr n r).post (.link n) (.link n r.nodeId r.state cause r.sector r.epoch (r.acc.map fun a => a / 16)) rescue := by
  unfold State.postLink
  rw [State.nbr_setNbr_self]
  rfl

/-! ### Node ids -/

/-- No record holds a node id exactly where each is VACANT or has another. -/
theorem State.nbrWithId_eq_none_iff (id : Nat) :
    s.nbrWithId id = none ↔ ∀ m, (s.nbr m).state = .vacant ∨ (s.nbr m).nodeId ≠ some id := by
  refine ⟨fun h m => or_iff_not_imp_left.2 fun used => State.nbrWithId_none h m used, fun h => Tab.lowest_eq_none.2 fun m => ?_⟩
  have := h m
  unfold State.nbr at this
  grind

/-- The record that alone holds a node id is the one found. -/
theorem State.nbrWithId_eq_some {id : Nat} {n : NbrIdx} (used : (s.nbr n).state ≠ .vacant) (holds : (s.nbr n).nodeId = some id)
    (alone : ∀ m, m ≠ n → (s.nbr m).state = .vacant ∨ (s.nbr m).nodeId ≠ some id) : s.nbrWithId id = some n := by
  refine Tab.lowest_eq_some.2 ⟨?_, fun m lt => ?_⟩
  · unfold State.nbr at used holds
    grind
  · have := alone m lt.ne
    unfold State.nbr at this
    grind

theorem State.mayEnrol_iff (n : NbrIdx) (id : Nat) :
    s.mayEnrol n id = true ↔ (∃ i, s.part.identity = some i ∧ i.nodeId ≠ id) ∧ (s.nbr n).state = .vacant
      ∧ ∀ m, (s.nbr m).state ≠ .vacant → (s.nbr m).nodeId ≠ some id := by
  have others : (s.nbrWithId id).isNone = true ↔ ∀ m, (s.nbr m).state ≠ .vacant → (s.nbr m).nodeId ≠ some id := by
    rw [Option.isNone_iff_eq_none, State.nbrWithId_eq_none_iff]
    exact forall_congr' fun m => or_iff_not_imp_left
  unfold State.mayEnrol
  rw [Bool.and_eq_true, Bool.and_eq_true, others, and_assoc]
  cases s.part.identity <;> simp

/-! ### Sectors and caps -/

theorem optionalOf_sector (sec : Option Sector) :
    optionalOf sectorOf (match sec with | none => 0xFF | some x => BitVec.ofNat 8 x.val) = some sec := by
  cases sec with
  | none => rfl
  | some x =>
    have present : BitVec.ofNat 8 x.val ≠ 0xFF := by
      revert x
      decide
    unfold optionalOf
    dsimp only
    rw [if_neg present, sectorOf_ofNat]
    rfl

theorem optionalOf_sector_high {b : Byte} (present : b ≠ 0xFF) (high : 6 ≤ b.toNat) : optionalOf sectorOf b = none := by
  unfold optionalOf sectorOf
  rw [if_neg present, below_of_le high]
  rfl

theorem optionalOf_nbr (n : Option NbrIdx) :
    optionalOf nbrOf (match n with | none => 0xFF | some n => BitVec.ofNat 8 n.val) = some n := by
  cases n with
  | none => rfl
  | some n =>
    have present : BitVec.ofNat 8 n.val ≠ 0xFF := by
      revert n
      decide
    unfold optionalOf
    dsimp only
    rw [if_neg present, nbrOf_ofNat]
    rfl

theorem capTaken_eq (cap : Byte) :
    capTaken cap = (if cap = 0xFF then 3 else ⟨min 3 cap.toNat, Nat.lt_succ_of_le (Nat.min_le_left _ _)⟩,
      decide (cap ≠ 0xFF ∧ 3 < cap.toNat)) := by
  unfold capTaken
  by_cases absent : cap = 0xFF
  · rw [if_pos absent, if_pos absent, decide_eq_false fun h => h.1 absent]
  · rw [if_neg absent, if_neg absent]
    by_cases low : cap.toNat < 4
    · rw [below_of_lt low, decide_eq_false fun h => absurd h.2 (by omega)]
      exact Prod.ext (Fin.ext (by simp; omega)) rfl
    · rw [below_of_le (Nat.not_lt.1 low), decide_eq_true ⟨absent, by omega⟩]
      exact Prod.ext (Fin.ext (by simp; omega)) rfl

theorem legalNodeId_iff (id : Nat) : legalNodeId id = true ↔ 1 ≤ id ∧ id ≤ 4094 := by
  unfold legalNodeId
  simp

/-! ### Alignment -/

/-- A difference normalised: within the superframe, and whole superframes from what it was (R131). -/
theorem normaliseD_spec {slotLen : Nat} (positive : 0 < slotLen) (raw : Int) :
    ∃ m : Int, normaliseD slotLen raw = raw + m * (32 * slotLen)
      ∧ -(16 * (slotLen : Int)) < normaliseD slotLen raw ∧ normaliseD slotLen raw ≤ 16 * slotLen := by
  unfold normaliseD
  dsimp only
  have length : 2 * (16 * (slotLen : Int)) = 32 * slotLen := by omega
  rw [length]
  have low := Int.emod_nonneg (raw + 16 * (slotLen : Int) - 1) (b := 32 * (slotLen : Int)) (by omega)
  have high := Int.emod_lt_of_pos (raw + 16 * (slotLen : Int) - 1) (b := 32 * (slotLen : Int)) (by omega)
  refine ⟨-((raw + 16 * (slotLen : Int) - 1) / (32 * slotLen)), ?_, by omega, by omega⟩
  have parts := Int.emod_add_mul_ediv (raw + 16 * (slotLen : Int) - 1) (32 * slotLen)
  linear_combination parts

/-- Outside a READ a posting changes the pending set alone. -/
theorem State.post_ended (h : s.ended) (src : Source) (content : NoticeContent) (rescue : Option Rescue) :
    s.post src content rescue = s.setLink { s.link with notices := postInto src content rescue s.link.notices } := by
  have phase : carryPosting src rescue s.link.phase = s.link.phase := by
    rw [show s.link.phase = .spent from h]
    rfl
  unfold State.post
  rw [phase]

/-- The alignment state cleared within a request (R130, R133). -/
theorem State.setSync_ended (h : s.ended) (sync : Option NbrIdx) :
    s.setSync sync =
      { s with
        sched := { s.sched with sync := sync, pendingD := none, lastD := none, holds := { s.sched.holds with drift := false } }
        link :=
          { s.link with
            notices :=
              (if s.sched.holds.drift = true then
                (postInto .scheduler (.scheduler .syncCleared false sync none s.sched.count) none s.link.notices)
              else s.link.notices) } } := by
  unfold State.setSync
  dsimp only
  split
  · exact State.post_ended (s := s.setSched { s.sched.withDrift false with sync := sync, pendingD := none, lastD := none }) h _ _ _
  · rfl

/-- DRIFT as judged against a measurement: a change is posted, and without one nothing happens. -/
theorem State.judgeDrift_eq (s : State) (d : Int) :
    s.judgeDrift d =
      if decide (40 < d.natAbs) = s.sched.holds.drift then s
      else (s.setSched (s.sched.withDrift (decide (40 < d.natAbs)))).postSched
        (if decide (40 < d.natAbs) then .driftSet else .driftCleared) (some d) := by
  unfold State.judgeDrift driftLimit
  by_cases big : 40 < d.natAbs
  · rw [decide_eq_true big]
    cases drift : s.sched.holds.drift
    · rw [if_pos ⟨big, rfl⟩, if_neg (by decide)]
      rfl
    · rw [if_neg fun h => absurd h.2 (by decide), if_neg fun h => absurd h.1 (by omega), if_pos rfl]
  · rw [decide_eq_false big]
    cases drift : s.sched.holds.drift
    · rw [if_neg fun h => big h.1, if_neg fun h => absurd h.2 (by decide), if_pos rfl]
    · rw [if_neg fun h => big h.1, if_pos ⟨by omega, rfl⟩, if_neg (by decide)]
      rfl

end

end Sys2Proof.Machine

namespace Sys2Proof.Proofs

open Sys2Proof Sys2Proof.Machine

/-- Settles O18: the checks in their order, and the record that an enrolment makes. -/
theorem enrolInitialisesTheRecord : Obligations.EnrolInitialisesTheRecord := by
  have done : ∀ (s : State) index nodeId hint cap, s.accepting →
      exec (.neighbourEnrol index nodeId hint cap) s = .next ((s.setPhase .spent).enrol index nodeId hint cap) :=
    fun s index nodeId hint cap accepting => exec_taken (c := .neighbourEnrol index nodeId hint cap) rfl accepting
  refine ⟨fun s index nodeId hint cap accepting bad => ?_, fun s n nodeId sec cap accepting low high => ?_⟩
  · rw [done s index nodeId hint cap accepting]
    unfold State.enrol
    have illegal : (nodeId.toNat = 0 ∨ 4094 < nodeId.toNat) → ¬ legalNodeId nodeId.toNat = true := fun h e => by
      rw [legalNodeId_iff] at e
      omega
    obtain index_ | id | id | ⟨present, sector⟩ := bad
    · rw [nbrOf_high index_]
      rfl
    · split
      · rw [if_neg (illegal (.inl id))]
        rfl
      · rfl
    · split
      · rw [if_neg (illegal (.inr id))]
        rfl
      · rfl
    · rw [optionalOf_sector_high present sector]
      cases nbrOf index <;> rfl
  · intro hint capNow command free record enrolled
    have hinted : optionalOf sectorOf hint = some sec := optionalOf_sector sec
    have run : exec command s = .next (if (s.setPhase .spent).mayEnrol n nodeId.toNat then
        ((((s.setPhase .spent).setNbr n (Nbr.enrolled nodeId.toNat sec (capTaken cap).1)).setQueue n []).postLink n .enrol none).reply
          Kind.neighbourEnrol .ok (.enrolled n (capTaken cap).1 (capTaken cap).2)
        else (s.setPhase .spent).reply Kind.neighbourEnrol .state .empty) := by
      rw [done s _ nodeId hint cap accepting]
      unfold State.enrol
      rw [nbrOf_ofNat, hinted]
      dsimp only
      rw [if_pos ((legalNodeId_iff _).2 ⟨low, high⟩)]
    have free_iff : (s.setPhase .spent).mayEnrol n nodeId.toNat = true ↔ free := State.mayEnrol_iff n nodeId.toNat
    refine ⟨fun taken => ?_, fun isFree => ?_⟩
    · rw [run, if_neg fun h => taken (free_iff.1 h)]
      rfl
    · have notice : (((s.setPhase .spent).setNbr n (Nbr.enrolled nodeId.toNat sec (capTaken cap).1)).setQueue n []).nbr n =
          Nbr.enrolled nodeId.toNat sec (capTaken cap).1 := State.nbr_setNbr_self _ n _
      rw [run, if_pos (free_iff.2 isFree)]
      unfold State.postLink
      rw [notice, capTaken_eq cap]
      rfl

/-- Settles O20: CONFIRM by the state found, QUERY by the report and the clear option. -/
theorem confirmAndQueryNeighbours : Obligations.ConfirmAndQueryNeighbours := by
  have confirm : ∀ (s : State) index, s.accepting → exec (.neighbourConfirm index) s = .next ((s.setPhase .spent).confirm index) :=
    fun s index accepting => exec_taken (c := .neighbourConfirm index) rfl accepting
  have query : ∀ (s : State) index clear, s.accepting →
      exec (.neighbourQuery index clear) s = .next ((s.setPhase .spent).query index clear) :=
    fun s index clear accepting => exec_taken (c := .neighbourQuery index clear) rfl accepting
  refine ⟨⟨fun s index accepting high => ?_, fun s n accepting => ?_⟩, fun s index clear accepting bad => ?_,
    fun s n clear accepting => ?_⟩
  · rw [confirm s index accepting]
    unfold State.confirm
    rw [nbrOf_high high]
    rfl
  · intro r released
    have run := confirm s (BitVec.ofNat 8 n.val) accepting
    unfold State.confirm at run
    rw [nbrOf_ofNat] at run
    dsimp only at run
    refine ⟨fun other => ?_, fun held => ?_⟩
    · rw [run, if_neg (show ¬ ((s.setPhase .spent).nbr n).state = .held from other)]
      rfl
    · have cleared := State.nbr_modNbr_self (s.setPhase .spent) n fun r => { r.clearWindow with reseed := true }
      have down : (((s.setPhase .spent).modNbr n fun r => { r.clearWindow with reseed := true }).nbr n).state ≠ .up := by
        rw [cleared]
        show r.state ≠ .up
        rw [held]
        decide
      rw [run, if_pos (show ((s.setPhase .spent).nbr n).state = .held from held),
        State.changeState_quiet down (by decide) (by decide), cleared]
      unfold State.modNbr
      rw [State.setNbr_setNbr, State.postLink_setNbr]
      rfl
  · rw [query s index clear accepting]
    unfold State.query
    obtain high | high := bad
    · rw [nbrOf_high high]
      rfl
    · rw [flagOf_eq_none high]
      cases nbrOf index <;> rfl
  · intro r zeroed after
    rw [query s _ _ accepting]
    unfold State.query
    rw [nbrOf_ofNat, flagOf_of_bool]
    cases clear <;> rfl

/-- Settles O42: the request by its fields, and the beacon by whose it is. -/
theorem timingFollowsTheSyncNeighbour : Obligations.TimingFollowsTheSyncNeighbour := by
  have done : ∀ (s : State) index, s.accepting → exec (.timingSet index) s = .next ((s.setPhase .spent).timingSet index) :=
    fun s index accepting => exec_taken (c := .timingSet index) rfl accepting
  refine ⟨fun s index accepting high present => ?_, fun s n accepting vacant => ?_, fun s sync accepting used => ?_,
    fun s b => ⟨fun other => ?_, fun k sync id positive => ?_⟩⟩
  · rw [done s index accepting]
    unfold State.timingSet optionalOf
    rw [if_neg present, nbrOf_high high]
    rfl
  · rw [done s _ accepting]
    unfold State.timingSet
    rw [optionalOf_nbr (some n)]
    exact congrArg _ (if_pos (show ((s.setPhase .spent).nbr n).state = .vacant from vacant))
  · intro index drifted cleared notices
    have named : optionalOf nbrOf index = some sync := optionalOf_nbr sync
    have answer : (s.setPhase .spent).timingSet index =
        ((s.setPhase .spent).setSync sync).reply Kind.timingSet .ok (.timing sync s.sched.holds.drift) := by
      unfold State.timingSet
      rw [named]
      cases sync with
      | none => rfl
      | some n => exact if_neg (show ¬ ((s.setPhase .spent).nbr n).state = .vacant from used n rfl)
    rw [done s index accepting, answer, State.setSync_ended s.ended_setPhase]
    rfl
  · unfold State.measure
    cases sync : s.sched.sync with
    | none => rfl
    | some k => exact if_neg (other k sync)
  · obtain ⟨m, shift, low, high⟩ := normaliseD_spec positive ((b.localTime : Int) - ((b.slot.toNat * s.sched.slotLen + b.offset.toNat : Nat) : Int))
    refine ⟨alignmentD s.sched.slotLen b, m, ?_, low, high, ?_⟩
    · unfold alignmentD
      rw [shift]
      push_cast
      rfl
    · intro drift measured
      have measures : s.measure b =
          (s.setSched { s.sched with pendingD := some (alignmentD s.sched.slotLen b), lastD := some (alignmentD s.sched.slotLen b) }).judgeDrift
            (alignmentD s.sched.slotLen b) := by
        unfold State.measure
        rw [sync]
        exact if_pos id
      rw [measures, State.judgeDrift_eq]
      refine ⟨fun same => ?_, fun changed => ?_⟩
      · refine (if_pos same).trans ?_
        simp only [measured]
        rw [same]
        rfl
      · refine (if_neg changed).trans ?_
        rw [← sync]
        rfl

end Sys2Proof.Proofs
end

section
/-! The requests of scheduler, scanner and identity (R116, R120 to R127, R139, R146 to R149, R168, R171), and the supply edges
(R169, R170). -/

namespace Sys2Proof.Machine

open Sys2Proof

/-! ### Slot codes and maps -/

theorem option_map_isSome_below {n v : Nat} {α : Type} (f : Fin n → α) : ((below n v).map f).isSome = true ↔ v < n := by
  by_cases low : v < n
  · rw [below_of_lt low]
    exact ⟨fun _ => low, fun _ => rfl⟩
  · rw [below_of_le (Nat.not_lt.1 low)]
    exact ⟨(fun h => nomatch h), fun h => absurd h low⟩

/-- The legal slot codes (R120). -/
theorem slotKindOf_isSome_iff (c : Half) :
    (slotKindOf c).isSome = true ↔ c.toNat = 0 ∨ (256 ≤ c.toNat ∧ c.toNat ≤ 271) ∨ (512 ≤ c.toNat ∧ c.toNat ≤ 527)
      ∨ (768 ≤ c.toNat ∧ c.toNat ≤ 773) ∨ c.toNat = 1024 := by
  have only : ∀ (p : Prop) [Decidable p] (k : SlotKind), (if p then some k else none).isSome = true ↔ p := fun p _ k => by
    split <;> simp_all
  unfold slotKindOf
  dsimp only
  split
  · rw [only]
    omega
  · rw [option_map_isSome_below]
    omega
  · rw [option_map_isSome_below]
    omega
  · rw [option_map_isSome_below]
    omega
  · rw [only]
    omega
  · next h0 h1 h2 h3 h4 =>
    refine ⟨(fun h => nomatch h), fun h => ?_⟩
    have : c.toNat / 256 ≠ 0 ∧ c.toNat / 256 ≠ 1 ∧ c.toNat / 256 ≠ 2 ∧ c.toNat / 256 ≠ 3 ∧ c.toNat / 256 ≠ 4 :=
      ⟨h0, h1, h2, h3, h4⟩
    omega

/-- What a write of consecutive codes leaves in each slot (R122). -/
theorem writeCodes_look (table : Tab Half 32) (first : Nat) (codes : List Half) (fits : first + codes.length ≤ 32) (i : SlotIdx) :
    (writeCodes table first codes).look i =
      if first ≤ i.val then (codes[i.val - first]?).getD (table.look i) else table.look i := by
  induction codes generalizing table first with
  | nil => simp [writeCodes]
  | cons c rest ih =>
    rw [List.length_cons] at fits
    have inside : first < 32 := by omega
    have unfolded : writeCodes table first (c :: rest) = writeCodes (table.put ⟨first, inside⟩ c) (first + 1) rest := by
      rw [writeCodes, dif_pos inside]
    rw [unfolded, ih _ _ (by omega), Tab.look_put]
    obtain below_ | here | above := Nat.lt_trichotomy i.val first
    · have other : i ≠ ⟨first, inside⟩ := fun e => below_.ne (congrArg Fin.val e)
      rw [if_neg (by omega), if_neg other, if_neg (by omega)]
    · rw [if_neg (by omega), if_pos (Fin.ext here), if_pos (by omega), here, Nat.sub_self]
      rfl
    · have other : i ≠ ⟨first, inside⟩ := fun e => above.ne' (congrArg Fin.val e)
      have shift : i.val - first = (i.val - (first + 1)) + 1 := by omega
      rw [if_pos (by omega), if_neg other, if_pos (by omega), shift]
      rfl

/-- The sum of halves as a number, modulo 65536. -/
theorem toNat_foldl_add (l : List Half) (a : Half) :
    (l.foldl (· + ·) a).toNat = ((l.map fun x => x.toNat).sum + a.toNat) % 65536 := by
  induction l generalizing a with
  | nil => simpa using (Nat.mod_eq_of_lt a.isLt).symm
  | cons x rest ih =>
    rw [List.foldl_cons, ih, BitVec.toNat_add, List.map_cons, List.sum_cons]
    omega

theorem Tab.toList_eq_map {α : Type} {n : Nat} (t : Tab α n) : t.toList = (List.finRange n).map t.look := by
  refine List.ext_getElem (by simp) fun i h _ => ?_
  simp [Tab.look]

theorem SlotMap.sum_toNat (m : SlotMap) :
    m.sum.toNat = (((List.finRange 32).map fun i => (m.codes.look i).toNat).sum + m.check.toNat) % 65536 := by
  unfold SlotMap.sum
  rw [toNat_foldl_add, Tab.toList_eq_map, List.map_map]
  rfl

theorem SlotMap.valid_eq (m : SlotMap) : m.valid = decide (m.sum = 65535) := rfl

theorem Scheduler.switch_valid {c : Scheduler} (h : (c.map c.other).sum = 65535) :
    c.switch = ({ c with active := c.other }, true) := if_pos (decide_eq_true h)

theorem Scheduler.switch_invalid {c : Scheduler} (h : (c.map c.other).sum ≠ 65535) : c.switch = (c, false) :=
  if_neg fun e => h (of_decide_eq_true e)

/-- The slot length taken (R116). -/
theorem slotLengthTaken_spec (v : Nat) :
    (v < 250 → slotLengthTaken v = 250) ∧ (4000 < v → slotLengthTaken v = 4000)
      ∧ (250 ≤ v → v ≤ 4000 → slotLengthTaken v ≤ v ∧ v < slotLengthTaken v + 50) := by
  unfold slotLengthTaken clampNat
  dsimp only
  split_ifs <;> omega

/-- The RANGE check of MAP WRITE as a whole (R122). -/
theorem legalSpan_iff (first : Nat) (codes : List Half) :
    legalSpan first codes = true ↔ first ≤ 31 ∧ first + codes.length ≤ 32
      ∧ ∀ c ∈ codes, c.toNat = 0 ∨ (256 ≤ c.toNat ∧ c.toNat ≤ 271) ∨ (512 ≤ c.toNat ∧ c.toNat ≤ 527)
        ∨ (768 ≤ c.toNat ∧ c.toNat ≤ 773) ∨ c.toNat = 1024 := by
  unfold legalSpan
  rw [Bool.and_eq_true, Bool.and_eq_true, decide_eq_true_eq, decide_eq_true_eq, List.all_eq_true, and_assoc]
  simp only [slotKindOf_isSome_iff]

/-- A flag in range is 0 or 1. -/
theorem flagOf_low {b : Byte} (h : b.toNat ≤ 1) : flagOf b = some (decide (b = 1)) := by
  have cases_ : b.toNat = 0 ∨ b.toNat = 1 := by omega
  obtain e | e := cases_
  · obtain rfl : b = 0 := BitVec.eq_of_toNat_eq e
    rfl
  · obtain rfl : b = 1 := BitVec.eq_of_toNat_eq e
    rfl

section
variable {s : State}

/-- MAP WRITE with legal fields (R122). -/
theorem State.mapWrite_legal {map first has : Byte} {check : Half} {codes : List Half} {m : Fin 2} (some_ : 1 ≤ codes.length)
    (fits : codes.length ≤ 32) (isMap : map.toNat = m.val) (flag : has.toNat ≤ 1) (legal : legalSpan first.toNat codes = true) :
    s.mapWrite map first has check codes =
      if s.sched.isRunning && m == s.sched.active then s.reply Kind.mapWrite .state .empty
      else
        let new := (s.sched.map m).written first.toNat codes (if has = 1 then some check else none)
        (s.setSched { s.sched with maps := s.sched.maps.put m new }).reply Kind.mapWrite .ok
          (.mapWritten m new.valid new.sum) := by
  have named : below 2 map.toNat = some m := by
    rw [isMap]
    exact below_of_lt m.isLt
  unfold State.mapWrite
  rw [if_neg (by omega), named, flagOf_low flag]
  dsimp only
  rw [if_pos legal]
  simp only [decide_eq_true_eq]

/-- MAP WRITE with a field out of its range (R122). -/
theorem State.mapWrite_illegal {map first has : Byte} {check : Half} {codes : List Half} (some_ : 1 ≤ codes.length)
    (fits : codes.length ≤ 32) (bad : ¬ (map.toNat ≤ 1 ∧ has.toNat ≤ 1 ∧ legalSpan first.toNat codes = true)) :
    s.mapWrite map first has check codes = s.reply Kind.mapWrite .range .empty := by
  unfold State.mapWrite
  rw [if_neg (by omega)]
  split
  · next m c isMap flag =>
    refine if_neg fun legal => bad ⟨?_, ?_, legal⟩
    · by_contra high
      rw [below_of_le (by omega)] at isMap
      cases isMap
    · by_contra high
      rw [flagOf_eq_none (by omega)] at flag
      cases flag
  · rfl

/-! ### Scanner settings -/

theorem modeOf_high {b : Byte} (h : 3 < b.toNat) : modeOf b = none := by
  unfold modeOf
  split
  case h_5 => rfl
  all_goals omega

theorem scanSettingsOf_none {mode start stop b l : Byte}
    (h : 3 < mode.toNat ∨ 5 < start.toNat ∨ 5 < stop.toNat ∨ 1 < b.toNat ∨ 1 < l.toNat) :
    scanSettingsOf mode start stop b l = none := by
  have sector : ∀ x : Byte, 5 < x.toNat → sectorOf x = none := fun x high => below_of_le (by omega)
  unfold scanSettingsOf
  split
  · next isMode isStart isStop isB isL =>
    obtain high | high | high | high | high := h
    · rw [modeOf_high high] at isMode
      cases isMode
    · rw [sector _ high] at isStart
      cases isStart
    · rw [sector _ high] at isStop
      cases isStop
    · rw [flagOf_eq_none high] at isB
      cases isB
    · rw [flagOf_eq_none high] at isL
      cases isL
  · rfl

/-- Scanner settings carried as R175 has them are the settings taken. -/
theorem scanSettingsOf_settings (new : ScanSettings) :
    scanSettingsOf (match new.mode with | .once => 0 | .onceLocked => 1 | .repeat => 2 | .step => 3)
      (BitVec.ofNat 8 new.start.val) (BitVec.ofNat 8 new.stop.val) (if new.boundary then 1 else 0) (if new.loss then 1 else 0)
      = some new := by
  obtain ⟨mode, start, stop, boundary, loss⟩ := new
  unfold scanSettingsOf
  rw [sectorOf_ofNat, sectorOf_ofNat, flagOf_of_bool, flagOf_of_bool]
  cases mode <;> rfl

/-! ### Triggers by the scanner's state and mode -/

theorem State.trigger_idle (h : s.scan.state = .idle) : s.trigger = (s.restartScan, .started) := by
  unfold State.trigger
  rw [h]

theorem State.trigger_resumed {a b : Sector} (h : s.scan.state = .waiting a b) (step : s.scan.settings.mode = .step) :
    s.trigger = (s.setScan { s.scan with state := .armed b }, .resumed) := by
  unfold State.trigger
  rw [h, step]

theorem State.trigger_restarted (h : s.scan.state ≠ .idle) (once : s.scan.settings.mode = .once) :
    s.trigger = (s.restartScan, .restarted) := by
  unfold State.trigger
  rw [once]
  cases st : s.scan.state with
  | idle => exact absurd st h
  | _ => rfl

theorem State.trigger_counted (h : s.scan.state ≠ .idle) (once : s.scan.settings.mode ≠ .once)
    (step : s.scan.settings.mode = .step → ¬ ∃ a b, s.scan.state = .waiting a b) : s.trigger = (s.ignoreTrigger, .ignored) := by
  unfold State.trigger
  cases mode : s.scan.settings.mode with
  | once => exact absurd mode once
  | step =>
    cases st : s.scan.state with
    | idle => exact absurd st h
    | waiting a b => exact absurd ⟨a, b, st⟩ (step mode)
    | _ => rfl
  | _ =>
    cases st : s.scan.state with
    | idle => exact absurd st h
    | _ => rfl

/-- The front end that an abandoned dwell leaves (R146). -/
def Radio.abandoned (r : Radio) (st : ScanState) : Radio :=
  match st with
  | .dwelling _ => { r with rxon := false, sector := none }
  | _ => r

/-- The front end after an assertion of SUPPLY-LOW, field by field (R110, R114, R169). -/
theorem Radio.cut_eq (r : Radio) :
    r.cut = { r with
      tx := (match r.tx with
        | none => none
        | some ctx => if ctx.phase = .burst then none else some ctx)
      beacon := none
      onAir := none
      txon := if r.onAir.isSome then false else r.txon } := by
  obtain ⟨rx, tx, beacon, onAir, txon, rxon, sector⟩ := r
  cases tx with
  | none => cases onAir <;> rfl
  | some ctx =>
    obtain ⟨nbr, sec, tier, cost, content, phase, ackset⟩ := ctx
    cases phase <;> cases onAir <;> rfl

theorem State.restartScan_eq (s : State) :
    s.restartScan = { s with radio := s.radio.abandoned s.scan.state, scan := { s.scan with state := .armed s.scan.settings.start } } := by
  obtain ⟨link, mon, path, store, radio, sched, ⟨settings, state, ignored⟩, part, pending⟩ := s
  cases state <;> rfl

theorem State.scanHalt_eq (s : State) :
    s.scanHalt = State.reply { s with radio := s.radio.abandoned s.scan.state, scan := { s.scan with state := .idle } }
      Kind.scanHalt .ok (.scanHalted s.scan.state.tag s.scan.state.current) := by
  obtain ⟨link, mon, path, store, radio, sched, ⟨settings, state, ignored⟩, part, pending⟩ := s
  cases state <;> rfl

end

end Sys2Proof.Machine

namespace Sys2Proof.Proofs

open Sys2Proof Sys2Proof.Machine

/-- Settles O43, request by request. -/
theorem slotLengthAndMapRequests : Obligations.SlotLengthAndMapRequests := by
  intro s accepting
  have running : (s.setPhase .spent).sched.isRunning = s.sched.isRunning := rfl
  refine ⟨fun v => ⟨fun run => ?_, fun stopped => ?_⟩, fun map first has check codes some_ fits => ?_, fun map high => ?_, fun m => ?_⟩
  · rw [exec_taken (c := .slotLength v) rfl accepting]
    exact congrArg _ (if_pos run)
  · obtain ⟨low, high, step⟩ := slotLengthTaken_mem v.toNat
    obtain ⟨short, long, between⟩ := slotLengthTaken_spec v.toNat
    refine ⟨slotLengthTaken v.toNat, low, high, step, short, long, between, ?_⟩
    rw [exec_taken (c := .slotLength v) rfl accepting]
    unfold State.setSlotLength
    have differs : (slotLengthTaken v.toNat != v.toNat) = decide (slotLengthTaken v.toNat ≠ v.toNat) := by
      rw [Bool.eq_iff_iff, bne_iff_ne, decide_eq_true_eq]
    rw [running, stopped, ← differs]
    rfl
  · intro legalCode legal command
    have done : exec command s = .next ((s.setPhase .spent).mapWrite map first has check codes) :=
      exec_taken (c := .mapWrite map first has check codes) rfl accepting
    have legal_iff : legal ↔ map.toNat ≤ 1 ∧ has.toNat ≤ 1 ∧ legalSpan first.toNat codes = true := by
      rw [legalSpan_iff]
    refine ⟨fun bad => ?_, fun m ok isMap => ?_⟩
    · rw [done, State.mapWrite_illegal some_ fits fun h => bad (legal_iff.2 h)]
      rfl
    · obtain ⟨-, flag, span⟩ := legal_iff.1 ok
      rw [done, State.mapWrite_legal some_ fits isMap flag span, running]
      refine ⟨fun run active => ?_, fun free => ?_⟩
      · have refused : (s.sched.isRunning && m == (s.setPhase .spent).sched.active) = true := by
          rw [run, active]
          exact beq_self_eq_true _
        rw [if_pos refused]
        rfl
      · have taken : ¬ (s.sched.isRunning && m == (s.setPhase .spent).sched.active) = true := by
          rw [Bool.and_eq_true, beq_iff_eq]
          rintro ⟨run, active⟩
          obtain stopped | other := free
          · rw [run] at stopped
            cases stopped
          · exact other active
        rw [if_neg taken]
        refine ⟨_, rfl, fun i c low listed => ?_, fun i outside => ?_, ?_, SlotMap.sum_toNat _⟩
        · refine (writeCodes_look _ _ _ ((legalSpan_iff _ _).1 span).2.1 i).trans ?_
          rw [if_pos low, listed]
          rfl
        · refine (writeCodes_look _ _ _ ((legalSpan_iff _ _).1 span).2.1 i).trans ?_
          obtain before | behind := outside
          · exact if_neg (by omega)
          · rw [List.getElem?_eq_none (by omega)]
            exact ite_self _
        · unfold SlotMap.written
          split <;> rfl
  · rw [exec_taken (c := .mapRead map) rfl accepting]
    unfold State.mapReadRequest
    rw [below_of_le (by omega)]
    rfl
  · intro t
    rw [exec_taken (c := .mapRead (BitVec.ofNat 8 m.val)) rfl accepting]
    unfold State.mapReadRequest
    rw [below_ofNat (by decide) m]
    rfl

/-- Settles O44: each request by the scheduler's state and the validity of the map it asks for. -/
theorem switchStartAndStop : Obligations.SwitchStartAndStop := by
  intro s accepting other sum own
  have switch : exec .mapSwitch s = .next ((s.setPhase .spent).mapSwitchRequest) := exec_taken (c := .mapSwitch) rfl accepting
  have start : exec .scheduleStart s = .next ((s.setPhase .spent).scheduleStart) := exec_taken (c := .scheduleStart) rfl accepting
  have stop : exec .scheduleStop s = .next ((s.setPhase .spent).scheduleStop) := exec_taken (c := .scheduleStop) rfl accepting
  have idle : s.sched.isRunning = false → ¬ (s.setPhase .spent).sched.isRunning = true := fun stopped => by
    rw [show (s.setPhase .spent).sched.isRunning = s.sched.isRunning from rfl, stopped]
    decide
  refine ⟨fun stopped valid => ?_, fun stopped invalid => ?_, exec_mapSwitch_running accepting, fun run => ?_, fun stopped invalid => ?_,
    fun stopped valid => ?_, fun stopped => ?_, fun p run => ?_⟩
  · rw [switch]
    unfold State.mapSwitchRequest
    rw [if_neg (idle stopped), Scheduler.switch_valid (c := (s.setPhase .spent).sched) valid]
    rfl
  · rw [switch]
    unfold State.mapSwitchRequest
    rw [if_neg (idle stopped), Scheduler.switch_invalid (c := (s.setPhase .spent).sched) invalid]
    rfl
  · rw [start]
    exact congrArg _ (if_pos run)
  · rw [start]
    unfold State.scheduleStart
    rw [if_neg (idle stopped)]
    exact congrArg _ (if_neg (show ¬ (s.sched.map s.sched.active).valid = true from fun h => invalid (of_decide_eq_true h)))
  · rw [start]
    unfold State.scheduleStart
    rw [if_neg (idle stopped)]
    exact congrArg _ (if_pos (show (s.sched.map s.sched.active).valid = true from decide_eq_true valid))
  · have none_ : s.sched.slotIndex = none := by
      unfold Scheduler.slotIndex
      cases st : s.sched.state with
      | stopped => rfl
      | running p =>
        rw [Scheduler.isRunning, st] at stopped
        cases stopped
    rw [stop]
    unfold State.scheduleStop
    rw [if_neg (idle stopped), show (s.setPhase .spent).sched.slotIndex = none from none_]
    rfl
  · intro slot scan
    have runs : (s.setPhase .spent).sched.isRunning = true := (Scheduler.isRunning_iff _).2 ⟨p, run⟩
    have index : s.sched.slotIndex = some slot := by
      unfold Scheduler.slotIndex
      rw [run]
      cases p <;> rfl
    rw [stop]
    unfold State.scheduleStop
    rw [if_pos runs, show (s.setPhase .spent).sched.slotIndex = some slot from index]
    rfl

/-- Settles O45: each request by the scanner's state and mode. -/
theorem scanRequestsFollowTheState : Obligations.ScanRequestsFollowTheState := by
  intro s accepting c quiet restart waits
  have set : ∀ mode start stop b l, exec (.scanSet mode start stop b l) s = .next ((s.setPhase .spent).scanSet mode start stop b l) :=
    fun mode start stop b l => exec_taken (c := .scanSet mode start stop b l) rfl accepting
  have start : exec .scanStart s = .next ((s.setPhase .spent).scanStart) := exec_taken (c := .scanStart) rfl accepting
  have halt : exec .scanHalt s = .next ((s.setPhase .spent).scanHalt) := exec_taken (c := .scanHalt) rfl accepting
  have started : ∀ {t : State} {o : ScanOutcome}, (s.setPhase .spent).trigger = (t, o) →
      exec .scanStart s = .next (t.reply Kind.scanStart .ok (.scanStarted o t.scan.state.tag t.scan.state.current t.scan.ignored)) :=
    fun {t o} h => by
      rw [start]
      unfold State.scanStart
      rw [h]
  refine ⟨fun mode from_ upto b l bad => ?_, fun new => ?_, fun idle => ?_, fun a b waiting step => ?_, fun busy once => ?_,
    fun busy mode step => ?_, ?_⟩
  · rw [set]
    unfold State.scanSet
    rw [scanSettingsOf_none bad]
    rfl
  · intro mode flag command
    have done : exec command s = .next (if (s.setPhase .spent).scan.state = .idle then
        ((s.setPhase .spent).setScan { s.scan with settings := new, ignored := 0 }).reply Kind.scanSet .ok (.scanSettings new)
        else (s.setPhase .spent).reply Kind.scanSet .state (.scanRefused s.scan.settings s.scan.state.tag)) := by
      rw [set]
      unfold State.scanSet
      have named : scanSettingsOf mode (BitVec.ofNat 8 new.start.val) (BitVec.ofNat 8 new.stop.val) (flag new.boundary) (flag new.loss) =
        some new := scanSettingsOf_settings new
      rw [named]
      rfl
    refine ⟨fun busy => ?_, fun idle => ?_⟩
    · rw [done]
      exact congrArg _ (if_neg busy)
    · rw [done]
      exact congrArg _ (if_pos idle)
  · rw [started (State.trigger_idle (s := s.setPhase .spent) idle), State.restartScan_eq]
    rfl
  · rw [started (State.trigger_resumed (s := s.setPhase .spent) waiting step)]
    rfl
  · rw [started (State.trigger_restarted (s := s.setPhase .spent) busy once), State.restartScan_eq]
    rfl
  · rw [started (State.trigger_counted (s := s.setPhase .spent) busy mode step)]
    rfl
  · rw [halt, State.scanHalt_eq]
    rfl

/-- Settles O48: the checks of IDENTIFY in their order, and STATUS field by field. -/
theorem identifyAndStatus : Obligations.IdentifyAndStatus := by
  intro s accepting
  refine ⟨fun nodeId epoch => ?_, ?_⟩
  · intro legal free now
    have done : exec (.identify nodeId epoch) s = .next ((s.setPhase .spent).identifyRequest nodeId epoch) :=
      exec_taken (c := .identify nodeId epoch) rfl accepting
    have free_iff : (s.sched.isRunning = false ∧ s.nbrWithId nodeId.toNat = none) ↔ free :=
      and_congr_right fun _ => State.nbrWithId_eq_none_iff _
    refine ⟨fun bad => ?_, fun ok used => ?_, fun ok isFree => ?_⟩
    · rw [done]
      exact congrArg _ (if_neg fun h => bad ((legalNodeId_iff _).1 h))
    · rw [done]
      unfold State.identifyRequest
      rw [if_pos ((legalNodeId_iff _).2 ok)]
      exact congrArg _ (if_neg fun h => used (free_iff.1 h))
    · rw [done]
      unfold State.identifyRequest
      rw [if_pos ((legalNodeId_iff _).2 ok)]
      exact congrArg _ (if_pos (free_iff.2 isFree))
  · refine ⟨s.statusReport, exec_taken (c := .status) rfl accepting, rfl, rfl, rfl, rfl, rfl, rfl, rfl, rfl, rfl, rfl, rfl, rfl, rfl,
      fun i => ?_, fun law => ?_, rfl, rfl, rfl, rfl, rfl⟩
    · refine Tab.lowest_eq_some.trans (and_congr Option.isNone_iff_eq_none (forall₂_congr fun j _ => ?_))
      exact Option.isNone_eq_false_iff.trans Option.isSome_iff_ne_none
    · exact law.pool_length.symm

/-- Settles O49: each edge by whether a start is in progress. -/
theorem supplyEdgesCutAndHold : Obligations.SupplyEdgesCutAndHold := by
  intro s
  have low_ : exec .supplyLowAssertion s = .next s.supplyAssert := exec_event_eq (c := .supplyLowAssertion) rfl s
  have high_ : exec .supplyLowDeassertion s = .next s.supplyRelease := exec_event_eq (c := .supplyLowDeassertion) rfl s
  refine ⟨fun starting => ?_, fun running => ?_⟩
  · have some_ : s.part.starting.isSome = true := Option.isSome_iff_ne_none.2 starting
    exact ⟨low_.trans (congrArg _ (if_pos some_)), high_.trans (congrArg _ (if_pos some_))⟩
  · intro cut tx low high
    have none_ : ¬ s.part.starting.isSome = true := by
      rw [running]
      decide
    refine ⟨low_.trans (congrArg _ ((if_neg none_).trans ?_)), high_.trans (congrArg _ (if_neg none_))⟩
    dsimp only
    rw [Radio.cut_eq]
    rfl

end Sys2Proof.Proofs
end

section
/-! Starts (R172, R173) and air frames (R79, R176). -/

namespace Sys2Proof.Machine

open Sys2Proof

/-! ### Warm and cold values -/

theorem Nbr.warm_vacant {r : Nbr} (h : r.state = .vacant) : r.warm = Nbr.vacant := if_pos h

theorem Nbr.warm_enrolled {r : Nbr} (h : r.state ≠ .vacant) :
    r.warm = { Nbr.vacant with state := .seeking, nodeId := r.nodeId, sector := r.sector, epoch := r.epoch, cap := r.cap } := if_neg h

/-- After a warm restart a LIVE FORWARD entry is PARKED, and every other is as it was (R40). -/
theorem warmEntry_eq (e : Entry) :
    warmEntry e = match e with
      | none => none
      | some r => some { r with state := if r.state = .live ∧ (∃ m, r.action = .forward m) then .parked else r.state } := by
  cases e with
  | none => rfl
  | some r =>
    obtain ⟨state, key, action, hits⟩ := r
    cases action with
    | forward n => cases state <;> simp [warmEntry]
    | deliver => simp [warmEntry]
    | discard => simp [warmEntry]

theorem SlotMap.cold_sum : SlotMap.cold.sum = 65535 := by decide +kernel

/-! ### The frame check -/

theorem wordBytes_length (w : BitVec 32) : (wordBytes w).length = 4 := rfl

/-- A frame and its check, whatever follows, give the covered bytes back. -/
theorem covered_withCheck (c extra : List Byte) : covered c.length (withCheck c ++ extra) = some c := by
  have front : (withCheck c ++ extra).take c.length = c := by
    unfold withCheck
    rw [List.append_assoc, List.take_left]
  have check : ((withCheck c ++ extra).drop c.length).take 4 = wordBytes (frameCheck c) := by
    unfold withCheck
    rw [List.append_assoc, List.drop_left]
    exact List.take_left' (wordBytes_length _)
  unfold covered
  dsimp only
  rw [front]
  exact if_pos ⟨rfl, check⟩

/-- A frame cut short before the end of its check fails (R79). -/
theorem covered_short {n : Nat} {bytes : List Byte} (short : bytes.length < n + 4) : covered n bytes = none := by
  unfold covered
  refine if_neg fun ⟨long, check⟩ => ?_
  have length := congrArg List.length check
  rw [wordBytes_length] at length
  simp only [List.length_take, List.length_drop] at long length
  omega

/-! ### The kinds of frame -/

section
variable {rest : List Byte}

theorem parseFrame_dataKind : parseFrame (halfBytes kindData ++ rest) = parseData (halfBytes kindData ++ rest) := rfl

theorem parseFrame_holdKind : parseFrame (halfBytes kindHold ++ rest) = parseHold (halfBytes kindHold ++ rest) := rfl

theorem parseFrame_acksetKind : parseFrame (halfBytes kindAckset ++ rest) = parseAckset (halfBytes kindAckset ++ rest) := rfl

theorem parseFrame_beaconKind : parseFrame (halfBytes kindBeacon ++ rest) = parseBeacon (halfBytes kindBeacon ++ rest) := rfl

end

/-- A frame cut short is too short for its kind, or is the kind with the rest cut short. -/
theorem take_kind (kind : Half) (rest : List Byte) (k : Nat) :
    parseFrame ((halfBytes kind ++ rest).take k) = none ∨ (halfBytes kind ++ rest).take k = halfBytes kind ++ rest.take (k - 2) := by
  match k with
  | 0 => exact .inl rfl
  | 1 => exact .inl rfl
  | k + 2 => exact .inr rfl

theorem parseData_short {l : List Byte} (h : l.length < 14) : parseData l = none := by
  unfold parseData
  split
  · simp only [List.length_cons] at h
    omega
  · rfl

theorem parseHold_short {l : List Byte} (h : l.length < 18) : parseHold l = none := by
  unfold parseHold
  split
  · rw [covered_short h]
    rfl
  · rfl

theorem parseAckset_short {l : List Byte} (h : l.length < 27) : parseAckset l = none := by
  unfold parseAckset
  split
  · rw [covered_short h]
    rfl
  · rfl

theorem parseBeacon_short {l : List Byte} (h : l.length < 12) : parseBeacon l = none := by
  unfold parseBeacon
  split
  · rw [covered_short h]
    split <;> rfl
  · rfl

/-! ### DATA -/

/-- A field in the low bits of a wider one is read back. -/
theorem extractLsb'_setWidth {v w : Nat} (h : v ≤ w) (x : BitVec v) : (x.setWidth w).extractLsb' 0 v = x := by
  apply BitVec.eq_of_toNat_eq
  have small : x.toNat < 2 ^ w := x.isLt.trans_le (Nat.pow_le_pow_right (by decide) h)
  rw [BitVec.extractLsb'_toNat, BitVec.toNat_setWidth, Nat.shiftRight_zero, Nat.mod_eq_of_lt small, Nat.mod_eq_of_lt x.isLt]

/-- The fourteen bytes before the payload of a DATA frame (R176). -/
def DataFrame.header (d : DataFrame) : List Byte :=
  halfBytes kindData ++ halfBytes d.tx ++ halfBytes d.rx ++ halfBytes (d.seq.setWidth 16) ++ halfBytes (d.dest.setWidth 16)
    ++ [d.cls.setWidth 8, d.hops.setWidth 8] ++ halfBytes (BitVec.ofNat 16 d.payload.length)

theorem DataFrame.header_length (d : DataFrame) : d.header.length = 14 := rfl

theorem dataBytes_eq (d : DataFrame) : dataBytes d = withCheck (d.header ++ d.payload) := rfl

/-- Behind the header of a DATA frame the check decides, and the payload is what it covers beyond the header. -/
theorem parseData_header {d : DataFrame} (some_ : 1 ≤ d.payload.length) (fits : d.payload.length ≤ 1440) (low : d.dest ≠ 0)
    (high : d.dest ≠ 4095) (rest : List Byte) :
    parseData (d.header ++ rest) =
      (covered (14 + d.payload.length) (d.header ++ rest)).map fun c => .data { d with payload := c.drop 14 } := by
  have length : (BitVec.ofNat 16 d.payload.length).toNat = d.payload.length := by
    rw [BitVec.toNat_ofNat]
    omega
  show (if _ then _ else _) = _
  simp only [halfOf_extract, length, extractLsb'_setWidth (show 12 ≤ 16 by decide)]
  rw [if_pos ⟨some_, fits, low, high⟩, extractLsb'_setWidth (by decide), extractLsb'_setWidth (by decide)]

/-! ### ACKSET -/

theorem ackMask_getLsbD {j : Nat} (h : j ≤ 8) (i : Nat) : (ackMask j).getLsbD i = decide (i < j) := by
  unfold ackMask
  rw [BitVec.getLsbD_ofNat, Nat.testBit_two_pow_sub_one]
  by_cases lt : i < j
  · simp [lt, lt.trans_le h]
  · simp [lt]

/-- Past the marked slots nothing is listed. -/
theorem markedSlots_unmarked {j : Nat} (h : j ≤ 8) (slots : List Half) (i : Nat) (past : j ≤ i) : markedSlots (ackMask j) i slots = [] := by
  induction slots generalizing i with
  | nil => rfl
  | cons x rest ih =>
    rw [markedSlots, ackMask_getLsbD h, decide_eq_false (by omega)]
    exact ih (i + 1) (by omega)

/-- The marked slots are the list that was sent (R176). -/
theorem markedSlots_list {j : Nat} (h : j ≤ 8) (list : List Seq) (zeros : List Half) (i : Nat) (isLast : i + list.length = j) :
    markedSlots (ackMask j) i ((list.map fun q => q.setWidth 16) ++ zeros) = list := by
  induction list generalizing i with
  | nil => exact markedSlots_unmarked h _ _ (by simpa using isLast.ge)
  | cons q rest ih =>
    rw [List.length_cons] at isLast
    rw [List.map_cons, List.cons_append, markedSlots, ackMask_getLsbD h, decide_eq_true (by omega), if_pos rfl,
      ih (i + 1) (by omega), extractLsb'_setWidth (by decide)]

/-- The sixteen slot bytes of an ACKSET, as the halves that they carry. -/
theorem halvesOf_slots (list : List Seq) (h : list.length ≤ 8) :
    halvesOf ((list.flatMap fun q => halfBytes (q.setWidth 16)) ++ List.replicate (16 - 2 * list.length) (0 : Byte)) =
      (list.map fun q => q.setWidth 16) ++ List.replicate (8 - list.length) 0 := by
  have zeros : ∀ n, List.replicate (2 * n) (0 : Byte) = (List.replicate n (0 : Half)).flatMap halfBytes := fun n => by
    induction n with
    | zero => rfl
    | succ n ih => exact congrArg (fun l => (0 : Byte) :: 0 :: l) ih
  have bytes : (list.flatMap fun q => halfBytes (q.setWidth 16)) ++ List.replicate (16 - 2 * list.length) (0 : Byte) =
      ((list.map fun q : Seq => (q.setWidth 16 : Half)) ++ List.replicate (8 - list.length) 0).flatMap halfBytes := by
    rw [List.flatMap_append, List.flatMap_map, ← zeros]
    congr 2
    omega
  rw [bytes, halvesOf_flatMap]

/-! ### Each frame as sent is read back -/

/-- A frame is read back as `f`, whatever follows it, and fails when cut short. -/
def AirFrame.ReadFrom (f : AirFrame) (bytes : List Byte) : Prop :=
  (∀ extra, parseFrame (bytes ++ extra) = some f) ∧ ∀ k, k < bytes.length → parseFrame (bytes.take k) = none

/-- A frame cut short fails, where its kind takes no shorter one. -/
theorem parseFrame_prefix {kind : Half} {parse : List Byte → Option AirFrame} {n : Nat} (rest : List Byte)
    (is : ∀ r, parseFrame (halfBytes kind ++ r) = parse (halfBytes kind ++ r)) (short : ∀ l, l.length < n → parse l = none)
    (k : Nat) (cut : k < n) : parseFrame ((halfBytes kind ++ rest).take k) = none := by
  obtain none_ | front := take_kind kind rest k
  · exact none_
  · rw [front, is, ← front]
    exact short _ (by rw [List.length_take]; omega)

theorem readFrom_hold (tx rx : Half) : (AirFrame.hold tx rx).ReadFrom (holdBytes tx rx) := by
  refine ⟨fun extra => ?_, fun k cut => parseFrame_prefix _ (fun _ => parseFrame_holdKind) (fun _ => parseHold_short) k cut⟩
  have parsed : parseFrame (holdBytes tx rx ++ extra) =
      (covered 14 (holdBytes tx rx ++ extra)).map fun _ =>
        .hold (halfOf (tx.extractLsb' 8 8) (tx.extractLsb' 0 8)) (halfOf (rx.extractLsb' 8 8) (rx.extractLsb' 0 8)) := rfl
  rw [parsed, halfOf_extract, halfOf_extract]
  exact congrArg (Option.map _) (covered_withCheck (halfBytes kindHold ++ halfBytes tx ++ halfBytes rx ++ List.replicate 8 0) extra)

theorem readFrom_beacon {id : Half} (ep sl : Byte) (off : Half) (legal : legalNodeId id.toNat = true) :
    (AirFrame.beacon id ep sl off).ReadFrom (beaconBytes id ep sl off) := by
  refine ⟨fun extra => ?_, fun k cut => parseFrame_prefix _ (fun _ => parseFrame_beaconKind) (fun _ => parseBeacon_short) k cut⟩
  have parsed : parseFrame (beaconBytes id ep sl off ++ extra) =
      if legalNodeId (halfOf (id.extractLsb' 8 8) (id.extractLsb' 0 8)).toNat then
        (covered 8 (beaconBytes id ep sl off ++ extra)).map fun _ =>
          .beacon (halfOf (id.extractLsb' 8 8) (id.extractLsb' 0 8)) ep sl (halfOf (off.extractLsb' 8 8) (off.extractLsb' 0 8))
      else none := rfl
  rw [parsed, halfOf_extract, halfOf_extract, if_pos legal]
  exact congrArg (Option.map _) (covered_withCheck (halfBytes kindBeacon ++ halfBytes id ++ [ep, sl] ++ halfBytes off) extra)

/-- The bytes that the check of an ACKSET covers. -/
def acksetCovered (tx rx : Half) (list : List Seq) : List Byte :=
  halfBytes kindAckset ++ halfBytes tx ++ halfBytes rx ++ [ackMask list.length]
    ++ (list.flatMap fun q => halfBytes (q.setWidth 16)) ++ List.replicate (16 - 2 * list.length) 0

theorem slotBytes_length {list : List Seq} (h : list.length ≤ 8) :
    ((list.flatMap fun q => halfBytes (q.setWidth 16)) ++ List.replicate (16 - 2 * list.length) (0 : Byte)).length = 16 := by
  have pairs : (list.flatMap fun q => halfBytes (q.setWidth 16)).length = 2 * list.length := by
    simp [halfBytes, List.length_flatMap, mul_comm]
  rw [List.length_append, pairs, List.length_replicate]
  omega

theorem acksetCovered_length (tx rx : Half) {list : List Seq} (h : list.length ≤ 8) : (acksetCovered tx rx list).length = 23 := by
  unfold acksetCovered
  rw [List.append_assoc, List.length_append, slotBytes_length h]
  rfl

theorem readFrom_ackset (tx rx : Half) {list : List Seq} (h : list.length ≤ 8) :
    (AirFrame.ackset tx rx list).ReadFrom (acksetBytes tx rx list) := by
  have length : (acksetBytes tx rx list).length = 27 := by
    show (acksetCovered tx rx list ++ _).length = 27
    rw [List.length_append, acksetCovered_length tx rx h]
    rfl
  refine ⟨fun extra => ?_, fun k cut => ?_⟩
  · have parsed : ∀ slots : List Byte,
        parseFrame (halfBytes kindAckset ++ halfBytes tx ++ halfBytes rx ++ [ackMask list.length] ++ slots) =
          (covered 23 (halfBytes kindAckset ++ halfBytes tx ++ halfBytes rx ++ [ackMask list.length] ++ slots)).map fun _ =>
            .ackset (halfOf (tx.extractLsb' 8 8) (tx.extractLsb' 0 8)) (halfOf (rx.extractLsb' 8 8) (rx.extractLsb' 0 8))
              (markedSlots (ackMask list.length) 0 (halvesOf (slots.take 16))) := fun slots => rfl
    have split_ : acksetBytes tx rx list ++ extra = halfBytes kindAckset ++ halfBytes tx ++ halfBytes rx ++ [ackMask list.length]
        ++ (((list.flatMap fun q => halfBytes (q.setWidth 16)) ++ List.replicate (16 - 2 * list.length) 0)
          ++ (wordBytes (frameCheck (acksetCovered tx rx list)) ++ extra)) := by
      simp only [acksetBytes, withCheck, acksetCovered, List.append_assoc]
    have check : covered 23 (acksetBytes tx rx list ++ extra) = some (acksetCovered tx rx list) := by
      rw [← acksetCovered_length tx rx h]
      exact covered_withCheck (acksetCovered tx rx list) extra
    rw [split_, parsed, ← split_, check, List.take_left' (slotBytes_length h), halvesOf_slots list h,
      markedSlots_list h list _ 0 (Nat.zero_add _), halfOf_extract, halfOf_extract]
    rfl
  · rw [length] at cut
    have front : acksetBytes tx rx list = halfBytes kindAckset ++ (acksetBytes tx rx list).drop 2 := rfl
    rw [front]
    exact parseFrame_prefix _ (fun _ => parseFrame_acksetKind) (fun _ => parseAckset_short) k cut

theorem readFrom_data {d : DataFrame} (some_ : 1 ≤ d.payload.length) (fits : d.payload.length ≤ 1440) (low : d.dest ≠ 0)
    (high : d.dest ≠ 4095) : (AirFrame.data d).ReadFrom (dataBytes d) := by
  have coveredLength : (d.header ++ d.payload).length = 14 + d.payload.length := by
    rw [List.length_append, d.header_length]
  have parsed : ∀ rest, parseFrame (d.header ++ rest) =
      (covered (14 + d.payload.length) (d.header ++ rest)).map fun c => .data { d with payload := c.drop 14 } := fun rest =>
    parseData_header some_ fits low high rest
  refine ⟨fun extra => ?_, fun k cut => ?_⟩
  · have split_ : dataBytes d ++ extra = d.header ++ (d.payload ++ (wordBytes (frameCheck (d.header ++ d.payload)) ++ extra)) := by
      simp only [dataBytes_eq, withCheck, List.append_assoc]
    have check : covered (14 + d.payload.length) (dataBytes d ++ extra) = some (d.header ++ d.payload) := by
      rw [← coveredLength]
      exact covered_withCheck _ extra
    rw [split_, parsed, ← split_, check]
    rfl
  · have length : (dataBytes d).length = 14 + d.payload.length + 4 := by
      rw [dataBytes_eq, withCheck, List.length_append, coveredLength]
      rfl
    rw [length] at cut
    obtain early | late := lt_or_ge k 14
    · have front : dataBytes d = halfBytes kindData ++ (dataBytes d).drop 2 := rfl
      rw [front]
      exact parseFrame_prefix _ (fun _ => parseFrame_dataKind) (fun _ => parseData_short) k early
    · have front : (dataBytes d).take k = d.header ++ (d.payload ++ wordBytes (frameCheck (d.header ++ d.payload))).take (k - 14) := by
        rw [dataBytes_eq, withCheck, List.append_assoc, List.take_append, d.header_length,
          List.take_of_length_le (by rw [d.header_length]; exact late)]
      rw [front, parsed, ← front, covered_short (by rw [List.length_take]; omega)]
      rfl

theorem byteCost_eq (t : Fin 4) : byteCost t = 8 / 2 ^ t.val := by
  revert t
  decide

end Sys2Proof.Machine

namespace Sys2Proof.Proofs

open Sys2Proof Sys2Proof.Machine

/-- Settles O50: the restart by its form, and the warm state block by block. -/
theorem warmRestartKeepsWhatTheHostSet : Obligations.WarmRestartKeepsWhatTheHostSet := by
  intro s accepting
  have form_ : ∀ form, exec (.restartRange form) s = .next ((s.setPhase .spent).restartRequest form) := fun form =>
    exec_taken (c := .restartRange form) rfl accepting
  refine ⟨fun form other => ?_, ?_, ?_, (s.setPhase .spent).warmRestart, exec_taken (c := .restartWarm) rfl accepting, rfl, rfl,
    fun n vacant => ?_, fun n enrolled => ?_, fun i => ?_, rfl, rfl, rfl, rfl, fun h => Tab.look_all _ h, fun n => Tab.look_all _ n,
    rfl, .refl _, rfl, rfl, rfl, rfl, rfl, rfl, rfl, rfl⟩
  · rw [form_]
    unfold State.restartRequest
    split
    · omega
    · omega
    · rfl
  · rw [form_, exec_taken (c := .restartCold) rfl accepting]
  · rw [form_, exec_taken (c := .restartWarm) rfl accepting]
  · exact (Tab.look_each _ _ n).trans (Nbr.warm_vacant vacant)
  · exact (Tab.look_each _ _ n).trans (Nbr.warm_enrolled enrolled)
  · exact (Tab.look_each _ _ i).trans (warmEntry_eq _)

/-- Settles O51: the beginning of a start by its cause, and the cold state block by block. -/
theorem coldStartsTakeTheColdValues : Obligations.ColdStartsTakeTheColdValues := by
  intro s begun low
  refine ⟨fun accepting => exec_restartCold (.inl rfl) accepting, rfl, fun other => ?_, fun power => ?_, fun idle => ?_,
    fun cause starting => ⟨State.cold cause s.part.supplyLow s.pending, ?_, rfl, fun sec => Tab.look_all _ sec, fun n => Tab.look_all _ n,
      fun i => Tab.look_all _ i, rfl, rfl, rfl, rfl, fun h => Tab.look_all _ h, fun n => Tab.look_all _ n, rfl, .refl _, rfl, rfl, rfl,
      rfl, rfl, rfl, rfl, fun m i => ?_, fun m => ?_, fun m => ?_, rfl, rfl, rfl, rfl, rfl, rfl, rfl, rfl⟩⟩
  · exact congrArg _ (if_neg other)
  · exact congrArg _ (if_pos power)
  · rw [exec_event_eq (c := .coldStartCompletion) rfl]
    unfold State.completeStart
    rw [idle]
  · rw [exec_event_eq (c := .coldStartCompletion) rfl]
    unfold State.completeStart
    rw [starting]
  · rw [show (State.cold cause s.part.supplyLow s.pending).sched.maps.look m = SlotMap.cold from Tab.look_all _ m]
    exact Tab.look_all _ i
  · rw [show (State.cold cause s.part.supplyLow s.pending).sched.maps.look m = SlotMap.cold from Tab.look_all _ m]
    rfl
  · rw [show (State.cold cause s.part.supplyLow s.pending).sched.maps.look m = SlotMap.cold from Tab.look_all _ m]
    exact SlotMap.cold_sum

/-- Settles O52, kind by kind. -/
theorem airFramesReadBack : Obligations.AirFramesReadBack := by
  refine ⟨fun bytes extra f sent => ?_, fun d tx rx list id off ep sl t short => ?_⟩
  · have reads : f.ReadFrom bytes := by
      obtain ⟨d, rfl, rfl, some_, fits, low, high⟩ | ⟨tx, rx, rfl, rfl⟩ | ⟨tx, rx, list, rfl, rfl, short⟩ | ⟨id, ep, sl, off, rfl, rfl, low, high⟩ := sent
      · exact readFrom_data some_ fits low high
      · exact readFrom_hold tx rx
      · exact readFrom_ackset tx rx short
      · exact readFrom_beacon ep sl off ((legalNodeId_iff _).2 ⟨low, high⟩)
    exact ⟨reads.1 extra, reads.2⟩
  · intro sent
    have data : (sent (dataBytes d)).length = 24 + d.payload.length := by
      show (startDelimiter ++ (d.header ++ d.payload ++ wordBytes _)).length = _
      rw [List.length_append, List.length_append, List.length_append, d.header_length, wordBytes_length]
      show 6 + (14 + d.payload.length + 4) = _
      omega
    have ackset : (sent (acksetBytes tx rx list)).length = 33 := by
      show (startDelimiter ++ (acksetCovered tx rx list ++ wordBytes _)).length = 33
      rw [List.length_append, List.length_append, acksetCovered_length tx rx short, wordBytes_length]
      rfl
    refine ⟨fun frame => rfl, data, rfl, ackset, rfl, ?_, ?_, ?_, rfl⟩
    · rw [frameTicks, data, byteCost_eq]
    · rw [frameTicks, byteCost_eq]
      rfl
    · rw [frameTicks, ackset]
      rfl

end Sys2Proof.Proofs
end

section
/-! The bytes of outbound records, field by field (R175), and ATTN (R163, R172). -/

namespace Sys2Proof.Machine

open Sys2Proof

/-! ### Fields of a given width -/

/-- A field of a width in bytes, its most-significant byte first, as a two's complement number (R175). -/
def fieldBytes (f : Nat × Int) : List Byte := (List.range f.1).map fun j => BitVec.ofInt 8 (f.2 / 256 ^ (f.1 - 1 - j))

/-- A byte of a wider field is the number shifted down to it. -/
theorem extractLsb'_ofInt_16 (x : Int) :
    (BitVec.ofInt 16 x).extractLsb' 8 8 = BitVec.ofInt 8 (x / 256) ∧ (BitVec.ofInt 16 x).extractLsb' 0 8 = BitVec.ofInt 8 x := by
  constructor <;> apply BitVec.eq_of_toNat_eq <;>
    simp only [BitVec.extractLsb'_toNat, BitVec.toNat_ofInt, Nat.shiftRight_eq_div_pow] <;> omega

theorem extractLsb'_ofInt_32 (x : Int) :
    (BitVec.ofInt 32 x).extractLsb' 24 8 = BitVec.ofInt 8 (x / 16777216) ∧ (BitVec.ofInt 32 x).extractLsb' 16 8 = BitVec.ofInt 8 (x / 65536)
      ∧ (BitVec.ofInt 32 x).extractLsb' 8 8 = BitVec.ofInt 8 (x / 256) ∧ (BitVec.ofInt 32 x).extractLsb' 0 8 = BitVec.ofInt 8 x := by
  refine ⟨?_, ?_, ?_, ?_⟩ <;> apply BitVec.eq_of_toNat_eq <;>
    simp only [BitVec.extractLsb'_toNat, BitVec.toNat_ofInt, Nat.shiftRight_eq_div_pow] <;> omega

theorem fieldBytes_one (n : Nat) : fieldBytes (1, (n : Int)) = oneByte n := by
  have whole : (n : Int) / 256 ^ 0 = n := by simp
  show [BitVec.ofInt 8 ((n : Int) / 256 ^ 0)] = _
  rw [whole, BitVec.ofInt_natCast]
  rfl

theorem fieldBytes_signed (x : Int) : fieldBytes (2, x) = signedTwo x := by
  obtain ⟨high, low⟩ := extractLsb'_ofInt_16 x
  have bytes : fieldBytes (2, x) = [BitVec.ofInt 8 (x / 256 ^ 1), BitVec.ofInt 8 (x / 256 ^ 0)] := rfl
  rw [bytes, pow_one, pow_zero, Int.ediv_one, ← high, ← low]
  rfl

theorem fieldBytes_two (n : Nat) : fieldBytes (2, (n : Int)) = twoBytes n := by
  rw [fieldBytes_signed, signedTwo, BitVec.ofInt_natCast]
  rfl

theorem fieldBytes_diff (x : Int) : fieldBytes (4, x) = signedFour x := by
  obtain ⟨b3, b2, b1, b0⟩ := extractLsb'_ofInt_32 x
  have bytes : fieldBytes (4, x) =
      [BitVec.ofInt 8 (x / 256 ^ 3), BitVec.ofInt 8 (x / 256 ^ 2), BitVec.ofInt 8 (x / 256 ^ 1), BitVec.ofInt 8 (x / 256 ^ 0)] := rfl
  unfold signedFour
  dsimp only
  rw [bytes, b3, b2, b1, b0, pow_zero, Int.ediv_one]
  norm_num

/-! ### Fields that the model holds as words -/

theorem twoBytes_toNat (h : Half) : twoBytes h.toNat = halfBytes h := by
  unfold twoBytes
  rw [BitVec.ofNat_toNat, BitVec.setWidth_eq]

theorem oneByte_toNat (b : Byte) : oneByte b.toNat = [b] := by
  unfold oneByte
  rw [BitVec.ofNat_toNat, BitVec.setWidth_eq]

theorem holds_byte (h : Holds) :
    [h.byte] = oneByte ((if h.identity then 1 else 0) + (if h.supply then 2 else 0) + (if h.drift then 4 else 0)) := by
  obtain ⟨identity, supply, drift⟩ := h
  cases identity <;> cases supply <;> cases drift <;> rfl

/-- A table sent without a count byte, from its first thing to its last. -/
theorem flatMap_toList {α : Type} {n : Nat} (t : Tab α n) (f : α → List Byte) :
    t.toList.flatMap f = (List.finRange n).flatMap fun i => f (t.look i) := by
  rw [Tab.toList_eq_map, List.flatMap_map]

theorem State.attn_iff (s : State) :
    s.attn = true ↔ s.part.starting = none ∧ (s.link.reply ≠ none ∨ s.link.notices ≠ [] ∨ s.store.delivery ≠ []) := by
  unfold State.attn
  cases s.part.starting <;> cases s.link.reply <;> cases s.link.notices <;> cases s.store.delivery <;> simp

end Sys2Proof.Machine

namespace Sys2Proof.Proofs

open Sys2Proof Sys2Proof.Machine

/-- Settles O28: each kind of field of R175 is an encoding of the model's, and each body is its fields in order. -/
theorem outboundRecordsAndAttn : Obligations.OutboundRecordsAndAttn := by
  unfold Obligations.OutboundRecordsAndAttn
  intro field bytes one two flag opt1 opt2 signed diff name linkState scanState startCause linkCause profile ingress action entry
    identity holds mask settings setting scanSettings counters neighbour status result notice record
  have field_ : field = fieldBytes := rfl
  have one_ : ∀ n, field (one n) = oneByte n := fieldBytes_one
  have two_ : ∀ n, field (two n) = twoBytes n := fieldBytes_two
  have signed_ : ∀ x, field (signed x) = optSigned x := fun x => fieldBytes_signed _
  have diff_ : ∀ x, field (diff x) = optDiff x := fun x => fieldBytes_diff _
  have flag_ : ∀ b, field (flag b) = flagByte b := fun b => one_ _
  have opt2_ : ∀ x, field (opt2 x) = optTwo x := fun x => two_ _
  have opt1_ : ∀ {n : Nat} (x : Option (Fin n)), field (opt1 (x.map (·.val))) = optOne x := fun x => (one_ _).trans (by cases x <;> rfl)
  have nil_ : bytes [] = [] := rfl
  have cons_ : ∀ f l, bytes (f :: l) = field f ++ bytes l := fun _ _ => rfl
  have append_ : ∀ l l', bytes (l ++ l') = bytes l ++ bytes l' := fun l l' => List.flatMap_append
  have map_ : ∀ {α : Type} (l : List α) (g : α → Nat × Int), bytes (l.map g) = l.flatMap fun x => field (g x) := fun l g =>
    List.flatMap_map ..
  have name_ : ∀ x, name x = optName x := fun x => by
    cases x with
    | none => rfl
    | some n => exact (List.append_nil _).trans (one_ n)
  have linkState_ : ∀ st, field (linkState st) = oneByte st.number := fun st => (one_ _).trans (by cases st <;> rfl)
  have scanState_ : ∀ st, field (scanState st) = oneByte st.number := fun st => (one_ _).trans (by cases st <;> rfl)
  have startCause_ : ∀ c, field (startCause c) = oneByte c.number := fun c => (one_ _).trans (by cases c <;> rfl)
  have linkCause_ : ∀ c, field (linkCause c) = oneByte c.number := fun c => (one_ _).trans (by cases c <;> rfl)
  have profile_ : ∀ p, field (profile p) = oneByte p.number := fun p => (one_ _).trans (by cases p <;> rfl)
  have setting_ : ∀ x, field (setting x) = oneByte x.number := fun x => (one_ _).trans (by cases x <;> rfl)
  have ingress_ : ∀ g, field (ingress g) = oneByte g.number := fun g => by cases g <;> exact one_ _
  have holds_ : ∀ h, field (holds h) = [h.byte] := fun h => (one_ _).trans (holds_byte h).symm
  have identity_ : ∀ i, bytes (identity i) = optIdentity i := fun i => by
    simp only [identity, cons_, nil_, opt2_, List.append_nil]
    cases i <;> rfl
  have mask_ : ∀ m, bytes (mask m) = m.bytes := fun m => by
    simp only [mask, cons_, nil_, two_, flag_, List.append_nil, Mask.bytes, List.append_assoc]
  have settings_ : ∀ c, bytes (settings c) = c.bytes := fun c => by
    have signed_some : ∀ x, field (signed (some x)) = signedTwo x := fun x => signed_ (some x)
    simp only [settings, cons_, nil_, one_, signed_some, List.append_nil, LinkSettings.bytes, List.append_assoc]
  have scanSettings_ : ∀ c, bytes (scanSettings c) = c.bytes := fun c => by
    have mode : [ScanMode.once, .onceLocked, .repeat, .step].idxOf c.mode = c.mode.number := by cases c.mode <;> rfl
    simp only [scanSettings, cons_, nil_, one_, flag_, mode, List.append_nil, ScanSettings.bytes, List.append_assoc]
  have counters_ : ∀ c, bytes (counters c) = c.bytes := fun c => by
    simp only [counters, cons_, nil_, two_, List.append_nil, NbrCounters.bytes, List.append_assoc]
  have entry_ : ∀ e, entry e = entryBytes e := fun e => by
    cases e with
    | none =>
      have absent : field (opt1 none) = oneByte 0xFF := one_ _
      simp only [entry, cons_, nil_, one_, two_, opt2_, absent, name_, List.append_nil, entryBytes, optOne, List.append_assoc]
    | some r =>
      have state : 1 + [RouteState.live, .parked, .barred].idxOf r.state = r.state.number := by cases r.state <;> rfl
      have number : (action r.action).1 = r.action.number := by cases r.action <;> rfl
      have hop : (action r.action).2 = r.action.hop.map (·.val) := by cases r.action <;> rfl
      simp only [entry, cons_, nil_, one_, two_, ingress_, state, number, hop, opt1_, List.append_nil, entryBytes, List.append_assoc]
  have neighbour_ : ∀ r, bytes (neighbour r) = r.bytes := fun r => by
    simp only [neighbour, append_, cons_, nil_, map_, linkState_, opt2_, opt1_, signed_, flag_, one_, two_, counters_,
      List.append_nil, NbrReport.bytes, listBytes, optEpoch, flatMap_toList, List.append_assoc]
  have status_ : ∀ r, bytes (status r) = r.bytes := fun r => by
    have count : field (two r.count.toNat) = halfBytes r.count := (two_ _).trans (twoBytes_toNat _)
    have nextFree : field (opt2 (r.nextFree.map (·.val))) = optEntryIdx r.nextFree := opt2_ _
    simp only [status, append_, cons_, nil_, startCause_, flag_, identity_, holds_, count, nextFree, one_, two_, opt1_, diff_, profile_,
      scanState_, List.append_nil]
    unfold StatusReport.bytes
    repeat rw [List.append_assoc]
  have result_ : ∀ b, result b = b.bytes := fun b => by
    cases b with
    | format len why taken =>
      have number : [Malformed.kind, .length, .short].idxOf why = why.number := by cases why <;> rfl
      simp only [result, cons_, nil_, opt2_, one_, two_, number, List.append_nil, ReplyBody.bytes, List.append_assoc]
    | neighbour r => exact neighbour_ r
    | status r => exact status_ r
    | entry e => exact entry_ e
    | settings now clamped =>
      simp only [result, append_, cons_, map_, settings_, one_, setting_, ReplyBody.bytes, listBytes]
    | notSent hops winner =>
      have index : field (opt2 (winner.map (·.1.val))) = optEntryIdx (winner.map (·.1)) := (opt2_ _).trans (by cases winner <;> rfl)
      have number : (winner.map fun w => (action w.2).1) = winner.map fun w => w.2.number := by
        cases winner with
        | none => rfl
        | some w =>
          obtain ⟨i, a⟩ := w
          cases a <;> rfl
      simp only [result, cons_, nil_, one_, index, number, name_, List.append_nil, ReplyBody.bytes, List.append_assoc]
    | scanStarted outcome st current ignored =>
      have number : [ScanOutcome.started, .restarted, .resumed, .ignored].idxOf outcome = outcome.number := by cases outcome <;> rfl
      simp only [result, cons_, nil_, one_, two_, number, scanState_, opt1_, List.append_nil, ReplyBody.bytes, List.append_assoc]
    | identified now was removed =>
      simp only [result, append_, cons_, nil_, two_, one_, oneByte_toNat, identity_, flag_, List.append_nil, ReplyBody.bytes, List.append_assoc]
    | mapRead m valid sum active =>
      simp only [result, append_, map_, cons_, nil_, two_, twoBytes_toNat, flag_, List.append_nil, ReplyBody.bytes, flatMap_toList,
        List.append_assoc]
    | _ =>
      simp only [result, append_, cons_, nil_, one_, two_, flag_, linkState_, scanState_, scanSettings_, entry_, mask_, profile_, identity_,
        opt1_, twoBytes_toNat, List.append_nil, ReplyBody.bytes, Discards.bytes, List.append_assoc]
  have notice_ : ∀ n, notice n = (n.content.kind, n.body) := fun n => by
    obtain ⟨source, content, changes, rescue⟩ := n
    have line : ∀ b : ReportBeacon, bytes [two b.nodeId, one b.epoch.toNat, signed (some b.sample), opt1 (b.enrolled.map (·.val))] = b.bytes :=
      fun b => by
        have sample : field (signed (some b.sample)) = signedTwo b.sample := signed_ _
        simp only [cons_, nil_, two_, one_, oneByte_toNat, sample, opt1_, List.append_nil, ReportBeacon.bytes, List.append_assoc]
    cases content with
    | supply edge level latch cut count =>
      have edgeNumber : [Edge.asserted, .released].idxOf edge = edge.number := by cases edge <;> rfl
      have cutNumber : (cut.map fun c => [Cut.none, .burst, .ackset, .beacon].idxOf c) = cut.map Cut.number := by
        cases cut with
        | none => rfl
        | some c => cases c <;> rfl
      simp only [notice, cons_, nil_, one_, two_, flag_, edgeNumber, cutNumber, name_, twoBytes_toNat, List.append_nil, Notice.body,
        NoticeContent.kind, List.append_assoc]
    | scheduler cause drift sync d count =>
      have causeNumber : [SchedCause.driftSet, .driftCleared, .syncCleared].idxOf cause = cause.number := by cases cause <;> rfl
      simp only [notice, cons_, nil_, one_, two_, flag_, causeNumber, opt1_, diff_, twoBytes_toNat, List.append_nil, Notice.body,
        NoticeContent.kind, List.append_assoc]
    | scanner sector count slot floor beacons more heard failed other st current next =>
      have lines : ∀ l : List ReportBeacon,
          bytes (l.flatMap fun b => [two b.nodeId, one b.epoch.toNat, signed (some b.sample), opt1 (b.enrolled.map (·.val))]) =
            l.flatMap ReportBeacon.bytes := fun l => by
        induction l with
        | nil => rfl
        | cons b l ih => rw [List.flatMap_cons, List.flatMap_cons, append_, line, ih]
      simp only [notice, append_, cons_, nil_, one_, two_, flag_, lines, scanState_, opt1_, twoBytes_toNat, List.append_nil, Notice.body,
        NoticeContent.kind, listBytes, List.append_assoc]
    | link i id st cause sec epoch margin =>
      simp only [notice, cons_, nil_, one_, opt2_, linkState_, linkCause_, opt1_, signed_, List.append_nil, Notice.body,
        NoticeContent.kind, List.append_assoc]
      rfl
    | start cause i level latch =>
      simp only [notice, append_, cons_, nil_, startCause_, identity_, flag_, one_, List.append_nil, Notice.body, NoticeContent.kind,
        List.append_assoc]
  have record_ : ∀ kind body, record kind body = recordBytes kind body := fun kind body => by
    simp only [record, cons_, nil_, two_, List.append_nil, recordBytes]
  refine ⟨fun r => ?_, fun n => ?_, fun f payload => ?_, State.attn_iff⟩
  · have number : [ResultCode.ok, .parked, .format, .range, .state, .full, .queue, .nomatch, .noroute, .local, .discarded, .nobuf,
        .mapfault].idxOf r.code = r.code.number := by cases r.code <;> rfl
    simp only [record_, cons_, nil_, one_, number, result_, List.append_nil, Reply.record]
  · rw [record_, notice_]
    rfl
  · simp only [record_, cons_, nil_, ingress_, two_, one_, flag_, List.append_nil, frameRecord, List.append_assoc]

end Sys2Proof.Proofs
end

section
/-! The rescue of a lost neighbour's queue, frame by frame and whole (R95, R96). -/

namespace Sys2Proof.Machine

open Sys2Proof

/-- The key under which a stored frame is looked up (R96). -/
abbrev FrameRec.key (f : FrameRec) : Key := { dest := f.dest, cls := f.cls, ing := f.ing }

section
variable {s : State} {j : Handle} {f : FrameRec}

/-! ### What becomes of one stored frame -/

theorem State.discard_eq (hf : s.frame j = some f) (why : Reason) :
    s.discard why j =
      { s with store := { s.store with frames := s.store.frames.put j none, pool := s.store.pool ++ f.pages,
                                       discards := s.store.discards.raise why } } := by
  unfold State.discard
  rw [State.release_some hf]
  rfl

theorem State.appendQueue_eq (hf : s.frame j = some f) (m : NbrIdx) :
    s.appendQueue m j =
      { s with
        mon := { s.mon with nbrs := s.mon.nbrs.put m { s.nbr m with txSeq := (s.nbr m).txSeq + 1 } }
        store := { s.store with
          frames := s.store.frames.put j
            (some { f with place := .queue m, seq := some (s.nbr m).txSeq, retries := some 0, unrouted := none })
          queues := s.store.queues.put m (s.queue m ++ [j]) } } := by
  unfold State.appendQueue
  rw [hf]
  rfl

theorem State.appendDelivery_eq (hf : s.frame j = some f) (unrouted : Bool) :
    s.appendDelivery j unrouted =
      { s with store := { s.store with
          frames := s.store.frames.put j
            (some { f with place := .delivery, seq := none, retries := none, unrouted := some unrouted })
          delivery := s.store.delivery ++ [j] } } := by
  unfold State.appendDelivery
  rw [hf]
  rfl

theorem State.queueHasRoom_iff (s : State) (m : NbrIdx) : s.queueHasRoom m = true ↔ (s.queue m).length < s.mon.settings.queueLimit :=
  decide_eq_true_iff

end

/-! ### The table of R96 -/

section
variable {acc : State × Rescue} {j : Handle} {f : FrameRec} (hf : acc.1.frame j = some f)
include hf

theorem rescueOne_noroute (none_ : (acc.1.frameLookup f.key).1 = none) :
    rescueOne acc j = ((acc.1.frameLookup f.key).2.discard .noroute j, { acc.2 with dropped := acc.2.dropped + 1 }) := by
  unfold rescueOne
  rw [hf]
  dsimp only
  rw [none_]

variable {i : EntryIdx} {r : Route} (won : (acc.1.frameLookup f.key).1 = some (i, r))
include won

theorem rescueOne_discarded (action : r.action = .discard) :
    rescueOne acc j = ((acc.1.frameLookup f.key).2.discard .action j, { acc.2 with dropped := acc.2.dropped + 1 }) := by
  unfold rescueOne
  rw [hf]
  dsimp only
  rw [won]
  dsimp only
  rw [action]

theorem rescueOne_delivered (action : r.action = .deliver) :
    rescueOne acc j = ((acc.1.frameLookup f.key).2.appendDelivery j false, { acc.2 with moved := acc.2.moved + 1 }) := by
  unfold rescueOne
  rw [hf]
  dsimp only
  rw [won]
  dsimp only
  rw [action]

variable {m : NbrIdx} (action : r.action = .forward m)
include action

theorem rescueOne_forwarded :
    rescueOne acc j =
      if f.ing = .nbr m then
        ((acc.1.frameLookup f.key).2.discard .reflect j, { acc.2 with dropped := acc.2.dropped + 1 })
      else if (acc.1.frameLookup f.key).2.queueHasRoom m then
        ((acc.1.frameLookup f.key).2.appendQueue m j, { acc.2 with moved := acc.2.moved + 1 })
      else ((acc.1.frameLookup f.key).2.discard .queue j, { acc.2 with dropped := acc.2.dropped + 1 }) := by
  unfold rescueOne
  rw [hf]
  dsimp only
  rw [won]
  dsimp only
  rw [action]

end

/-- The three things that a rescue makes of a frame: released, delivered, or queued at another hop that is not its ingress. -/
theorem rescueOne_cases {acc : State × Rescue} {j : Handle} {f : FrameRec} (hf : acc.1.frame j = some f) :
    (∃ why, rescueOne acc j = ((acc.1.frameLookup f.key).2.discard why j, { acc.2 with dropped := acc.2.dropped + 1 }))
      ∨ rescueOne acc j = ((acc.1.frameLookup f.key).2.appendDelivery j false, { acc.2 with moved := acc.2.moved + 1 })
      ∨ ∃ i r m, acc.1.entry i = some r ∧ r.state = .live ∧ r.action = .forward m ∧ f.ing ≠ .nbr m
          ∧ rescueOne acc j = ((acc.1.frameLookup f.key).2.appendQueue m j, { acc.2 with moved := acc.2.moved + 1 }) := by
  cases won : (acc.1.frameLookup f.key).1 with
  | none => exact .inl ⟨_, rescueOne_noroute hf won⟩
  | some w =>
    obtain ⟨i, r⟩ := w
    cases action : r.action with
    | discard => exact .inl ⟨_, rescueOne_discarded hf won action⟩
    | deliver => exact .inr (.inl (rescueOne_delivered hf won action))
    | forward m =>
      have forwarded := rescueOne_forwarded hf won action
      by_cases reflected : f.ing = .nbr m
      · exact .inl ⟨_, forwarded.trans (if_pos reflected)⟩
      · rw [if_neg reflected] at forwarded
        by_cases room : (acc.1.frameLookup f.key).2.queueHasRoom m = true
        · obtain ⟨entry, live, -⟩ := State.frameLookup_live won
          exact .inr (.inr ⟨i, r, m, entry, live, action, reflected, forwarded.trans (if_pos room)⟩)
        · exact .inl ⟨_, forwarded.trans (if_neg room)⟩

/-- No LIVE entry forwards to a neighbour. -/
def State.Avoids (s : State) (n : NbrIdx) : Prop := ∀ i r, s.entry i = some r → r.state = .live → r.action ≠ .forward n

theorem State.Avoids.of_entries {s t : State} {n : NbrIdx} (h : s.Avoids n) (entries : t.path.entries = s.path.entries) : t.Avoids n :=
  fun i r e => h i r ((State.entry_eq entries i).symm.trans e)

theorem State.Avoids.frameLookup {s : State} {n : NbrIdx} (h : s.Avoids n) (q : Key) : (s.frameLookup q).2.Avoids n := by
  obtain ⟨-, e⟩ | ⟨i, r, -, entry, -, e⟩ := s.frameLookup_spec q
  · rwa [e]
  · intro k r' there live
    rw [e, State.entry_setEntry] at there
    split at there
    · obtain rfl := Option.some.inj there
      exact h i r entry live
    · exact h k r' there live

/-! ### The whole rescue -/

/-- What a rescue has made of a frame's record: released, or whole in another place (R95, R96). -/
def FrameRec.Rescued (f : FrameRec) (n : NbrIdx) (t : State) (j : Handle) : Prop :=
  t.frame j = none
    ∨ ∃ f', t.frame j = some f' ∧ f'.ing = f.ing ∧ f'.dest = f.dest ∧ f'.cls = f.cls ∧ f'.hops = f.hops
        ∧ f'.len = f.len ∧ f'.pages = f.pages
        ∧ ((f'.place = .delivery ∧ f'.unrouted = some false ∧ j ∈ t.store.delivery)
            ∨ ∃ m, m ≠ n ∧ f'.place = .queue m ∧ f'.retries = some 0 ∧ j ∈ t.queue m ∧ f.ing ≠ .nbr m)

/-- A frame rescued stays so while its record stays and the places grow. -/
theorem FrameRec.Rescued.mono {f : FrameRec} {n : NbrIdx} {t u : State} {j : Handle} (h : f.Rescued n t j)
    (frame : u.frame j = t.frame j) (queues : ∀ m, t.queue m <+: u.queue m) (delivery : t.store.delivery <+: u.store.delivery) :
    f.Rescued n u j := by
  obtain none_ | ⟨f', there, ing, dest, cls, hops, len, pages, placed⟩ := h
  · exact .inl (frame.trans none_)
  · refine .inr ⟨f', frame.trans there, ing, dest, cls, hops, len, pages, ?_⟩
    obtain ⟨place, unrouted, listed⟩ | ⟨m, other, place, retries, listed, apart⟩ := placed
    · exact .inl ⟨place, unrouted, delivery.subset listed⟩
    · exact .inr ⟨m, other, place, retries, (queues m).subset listed, apart⟩

/-- The rescue of `n` so far: the frames `done` are disposed of and counted, and nothing else of the store has changed but the tails
of other queues. -/
structure RescueSoFar (s : State) (n : NbrIdx) (done : List Handle) (acc : State × Rescue) : Prop where
  empty : acc.1.queue n = []
  avoids : acc.1.Avoids n
  mem : acc.1.store.mem = s.store.mem
  kept : ∀ h, h ∉ done → acc.1.frame h = s.frame h
  rescued : ∀ h f, h ∈ done → s.frame h = some f → f.Rescued n acc.1 h
  total : acc.2.moved + acc.2.dropped = done.length
  moved : acc.2.moved = (done.filter fun h => (acc.1.frame h).isSome).length
  queues : ∀ m, m ≠ n → s.queue m <+: acc.1.queue m
  delivery : s.store.delivery <+: acc.1.store.delivery

theorem RescueSoFar.start {s : State} {n : NbrIdx} (avoids : s.Avoids n) : RescueSoFar s n [] (s.setQueue n [], ⟨0, 0⟩) where
  empty := (State.queue_setQueue s n n []).trans (if_pos rfl)
  avoids := avoids
  mem := rfl
  kept := fun _ _ => rfl
  rescued := fun _ _ there => nomatch there
  total := rfl
  moved := rfl
  queues := fun m other => by
    rw [State.queue_setQueue, if_neg other]
  delivery := List.prefix_refl _

/-- The next frame, by what has become of it alone. -/
theorem RescueSoFar.next {s u : State} {n : NbrIdx} {done : List Handle} {acc : State × Rescue} {count : Rescue} {j : Handle} {f : FrameRec}
    (h : RescueSoFar s n done acc) (fresh : j ∉ done) (record : s.frame j = some f) (avoids : u.Avoids n)
    (mem : u.store.mem = acc.1.store.mem) (others : ∀ x, x ≠ j → u.frame x = acc.1.frame x) (rescued : f.Rescued n u j)
    (queues : ∀ m, acc.1.queue m <+: u.queue m) (empty : u.queue n = []) (delivery : acc.1.store.delivery <+: u.store.delivery)
    (counted : (u.frame j = none ∧ count = { acc.2 with dropped := acc.2.dropped + 1 })
      ∨ ∃ g, u.frame j = some g ∧ count = { acc.2 with moved := acc.2.moved + 1 }) :
    RescueSoFar s n (done ++ [j]) (u, count) where
  empty := empty
  avoids := avoids
  mem := mem.trans h.mem
  kept := fun x out => by
    rw [List.mem_append, List.mem_singleton, not_or] at out
    exact (others x out.2).trans (h.kept x out.1)
  rescued := fun x g there e => by
    obtain before | here := List.mem_append.1 there
    · exact (h.rescued x g before e).mono (others x fun same => fresh (same ▸ before)) queues delivery
    · obtain rfl := List.mem_singleton.1 here
      obtain rfl := Option.some.inj (record.symm.trans e)
      exact rescued
  total := by
    have := h.total
    rw [List.length_append, List.length_singleton]
    obtain ⟨-, rfl⟩ | ⟨g, -, rfl⟩ := counted
    · dsimp only
      omega
    · dsimp only
      omega
  moved := by
    have before : (done.filter fun x => (u.frame x).isSome) = done.filter fun x => (acc.1.frame x).isSome :=
      List.filter_congr fun x there => by rw [others x fun same => fresh (same ▸ there)]
    have := h.moved
    rw [List.filter_append, List.length_append, before]
    obtain ⟨released, rfl⟩ | ⟨g, stands, rfl⟩ := counted
    · simp [released, this]
    · simp [stands, this]
  queues := fun m other => (h.queues m other).trans (queues m)
  delivery := h.delivery.trans delivery

theorem RescueSoFar.rescueOne {s : State} {n : NbrIdx} {done : List Handle} {acc : State × Rescue} {j : Handle} {f : FrameRec}
    (h : RescueSoFar s n done acc) (fresh : j ∉ done) (record : s.frame j = some f) :
    RescueSoFar s n (done ++ [j]) (rescueOne acc j) := by
  have hf : acc.1.frame j = some f := (h.kept j fresh).trans record
  have store := acc.1.frameLookup_store f.key
  have looked : (acc.1.frameLookup f.key).2.frame j = some f := (State.frame_eq (congrArg FrameStore.frames store) j).trans hf
  have avoids := h.avoids.frameLookup f.key
  have mem : (acc.1.frameLookup f.key).2.store.mem = acc.1.store.mem := congrArg FrameStore.mem store
  have delivery : (acc.1.frameLookup f.key).2.store.delivery = acc.1.store.delivery := congrArg FrameStore.delivery store
  have queue : ∀ m, (acc.1.frameLookup f.key).2.queue m = acc.1.queue m := State.queue_eq (congrArg FrameStore.queues store)
  have others : ∀ x, x ≠ j → (Machine.rescueOne acc j).1.frame x = acc.1.frame x := fun x => rescueOne_frame acc
  obtain ⟨why, e⟩ | e | ⟨i, r, m, entry, live, action, apart, e⟩ := rescueOne_cases hf
  · rw [State.discard_eq looked] at e
    rw [e] at others ⊢
    have released : (Tab.put (acc.1.frameLookup f.key).2.store.frames j none).look j = none := Tab.look_put_self _ _ _
    exact h.next fresh record avoids mem others (.inl released) (fun m => by rw [← queue m]; exact List.prefix_refl _)
      ((queue n).trans h.empty) (by rw [← delivery]) (.inl ⟨released, rfl⟩)
  · rw [State.appendDelivery_eq looked] at e
    rw [e] at others ⊢
    have there := Tab.look_put_self (acc.1.frameLookup f.key).2.store.frames j
      (some { f with place := .delivery, seq := none, retries := none, unrouted := some false })
    refine h.next fresh record avoids mem others
      (.inr ⟨_, there, rfl, rfl, rfl, rfl, rfl, rfl, .inl ⟨rfl, rfl, List.mem_append_right _ (List.mem_singleton_self j)⟩⟩)
      (fun m => by rw [← queue m]; exact List.prefix_refl _) ((queue n).trans h.empty) ?_ (.inr ⟨_, there, rfl⟩)
    rw [← delivery]
    exact List.prefix_append _ _
  · have other : m ≠ n := fun same => h.avoids i r entry live (same ▸ action)
    rw [State.appendQueue_eq looked] at e
    rw [e] at others ⊢
    have there := Tab.look_put_self (acc.1.frameLookup f.key).2.store.frames j (some { f with
      place := .queue m, seq := some ((acc.1.frameLookup f.key).2.nbr m).txSeq, retries := some 0, unrouted := none })
    have tails := Tab.look_put (acc.1.frameLookup f.key).2.store.queues m
    refine h.next fresh record avoids mem others
      (.inr ⟨_, there, rfl, rfl, rfl, rfl, rfl, rfl, .inr ⟨m, other, rfl, rfl, ?_, apart⟩⟩) (fun k => ?_)
      ?_ (by rw [← delivery]) (.inr ⟨_, there, rfl⟩)
    · show j ∈ Tab.look _ m
      rw [tails, if_pos rfl]
      exact List.mem_append_right _ (List.mem_singleton_self j)
    · show acc.1.queue k <+: Tab.look _ k
      rw [tails]
      split
      · next same =>
        rw [same, ← queue m]
        exact List.prefix_append _ _
      · rw [← queue k]
        exact List.prefix_refl _
    · show Tab.look _ n = []
      rw [tails, if_neg other.symm]
      exact (queue n).trans h.empty

theorem RescueSoFar.all {s : State} {n : NbrIdx} {rest done : List Handle} {acc : State × Rescue} (h : RescueSoFar s n done acc)
    (nodup : (done ++ rest).Nodup) (records : ∀ j ∈ rest, ∃ f, s.frame j = some f) :
    RescueSoFar s n (done ++ rest) (rest.foldl Machine.rescueOne acc) := by
  induction rest generalizing done acc with
  | nil => rwa [List.append_nil]
  | cons j rest ih =>
    obtain ⟨f, record⟩ := records j List.mem_cons_self
    have fresh : j ∉ done := fun there => (List.nodup_append.1 nodup).2.2 j there j List.mem_cons_self rfl
    have split_ : done ++ j :: rest = done ++ [j] ++ rest := by simp
    rw [split_] at nodup ⊢
    exact ih (h.rescueOne fresh record) nodup fun x there => records x (List.mem_cons_of_mem _ there)

end Sys2Proof.Machine

namespace Sys2Proof.Proofs

open Sys2Proof Sys2Proof.Machine

/-- Settles O17: the table of R96 for the last frame, and for the whole queue an invariant over the frames disposed of. -/
theorem rescueAccountsForEveryFrame : Obligations.RescueAccountsForEveryFrame := by
  refine ⟨fun s n empty => State.rescue_empty empty, fun s n pre h f queue => ?_, fun s n law avoids => ?_⟩
  · intro shorter u c record asked v was dropped moved
    have one : s.rescue n = rescueOne (u, c) h := State.rescue_snoc queue
    have looked : v.frame h = some f :=
      (State.frame_eq (congrArg FrameStore.frames (u.frameLookup_store f.key)) h).trans record
    refine ⟨fun none_ => ?_, fun i r won => ⟨fun action => ?_, fun action => ?_, fun m action => ⟨fun reflected => ?_,
      fun apart room => ?_, fun apart full => ?_⟩⟩⟩
    · rw [one, rescueOne_noroute (acc := (u, c)) record none_]
      exact congrArg (·, _) (State.discard_eq looked _)
    · rw [one, rescueOne_discarded (acc := (u, c)) record won action]
      exact congrArg (·, _) (State.discard_eq looked _)
    · rw [one, rescueOne_delivered (acc := (u, c)) record won action]
      exact congrArg (·, _) (State.appendDelivery_eq looked _)
    · rw [one, rescueOne_forwarded (acc := (u, c)) record won action, if_pos reflected]
      exact congrArg (·, _) (State.discard_eq looked _)
    · rw [one, rescueOne_forwarded (acc := (u, c)) record won action, if_neg apart, if_pos ((State.queueHasRoom_iff _ _).2 room)]
      exact congrArg (·, _) (State.appendQueue_eq looked _)
    · rw [one, rescueOne_forwarded (acc := (u, c)) record won action, if_neg apart,
        if_neg fun h => absurd ((State.queueHasRoom_iff _ _).1 h) (Nat.not_lt.2 full)]
      exact congrArg (·, _) (State.discard_eq looked _)
  · intro t c
    obtain ⟨stored, -, -⟩ := storeLaw_iff.1 law
    have done : RescueSoFar s n ([] ++ s.queue n) (s.rescue n) :=
      (RescueSoFar.start avoids).all (stored.nodup (.queue n)) fun j there => (stored.held (.queue n) j there).imp fun f h => h.1
    rw [List.nil_append] at done
    exact ⟨done.empty, done.total, done.moved, done.mem, done.kept, fun h f there e => done.rescued h f there e, done.queues, done.delivery⟩

end Sys2Proof.Proofs
end

section
/-! A neighbour's change of state and an observation, record by record (R18 to R22, R58, R59). -/

namespace Sys2Proof.Machine

open Sys2Proof

section
variable {s : State}

/-! ### What a rescue and a trigger leave of the neighbour records -/

/-- A rescue changes at most TX sequence counters of neighbour records (R96). -/
theorem State.nbr_rescue (s : State) (n m : NbrIdx) : ∃ q, (s.rescue n).1.nbr m = { s.nbr m with txSeq := q } := by
  refine foldl_keeps (P := fun acc : State × Rescue => ∃ q, acc.1.nbr m = { s.nbr m with txSeq := q }) rescueOne
    (fun acc j ⟨q, same⟩ => ?_) (s.queue n) ⟨(s.nbr m).txSeq, rfl⟩
  cases hf : acc.1.frame j with
  | none =>
    unfold rescueOne
    rw [hf]
    exact ⟨q, same⟩
  | some f =>
    have looked : ∀ k, (acc.1.frameLookup f.key).2.nbr k = acc.1.nbr k := State.nbr_eq (congrArg Monitor.nbrs (State.frameLookup_mon _ _))
    have there := (State.frame_eq (congrArg FrameStore.frames (acc.1.frameLookup_store f.key)) j).trans hf
    obtain ⟨why, e⟩ | e | ⟨i, r, k, -, -, -, -, e⟩ := rescueOne_cases hf
    · rw [e, State.discard_eq there]
      exact ⟨q, (looked m).trans same⟩
    · rw [e, State.appendDelivery_eq there]
      exact ⟨q, (looked m).trans same⟩
    · rw [e, State.appendQueue_eq there]
      by_cases same_ : m = k
      · subst same_
        refine ⟨(acc.1.nbr m).txSeq + 1, (Tab.look_put_self _ _ _).trans ?_⟩
        rw [looked, same]
      · exact ⟨q, (Tab.look_put_of_ne _ _ same_).trans ((looked m).trans same)⟩

/-- A rescue of which no frame can go to `m` leaves `m`'s record. -/
theorem State.Avoids.nbr_rescue {m : NbrIdx} (h : s.Avoids m) (n : NbrIdx) : (s.rescue n).1.nbr m = s.nbr m := by
  refine (foldl_keeps (P := fun acc : State × Rescue => acc.1.Avoids m ∧ acc.1.nbr m = s.nbr m) rescueOne
    (fun acc j ⟨avoids, same⟩ => ?_) (s.queue n) ⟨h, rfl⟩).2
  cases hf : acc.1.frame j with
  | none =>
    unfold rescueOne
    rw [hf]
    exact ⟨avoids, same⟩
  | some f =>
    have avoids' := avoids.frameLookup f.key
    have looked : (acc.1.frameLookup f.key).2.nbr m = s.nbr m :=
      (State.nbr_eq (congrArg Monitor.nbrs (State.frameLookup_mon _ _)) m).trans same
    have there := (State.frame_eq (congrArg FrameStore.frames (acc.1.frameLookup_store f.key)) j).trans hf
    obtain ⟨why, e⟩ | e | ⟨i, r, k, entry, live, action, -, e⟩ := rescueOne_cases hf
    · rw [e, State.discard_eq there]
      exact ⟨avoids', looked⟩
    · rw [e, State.appendDelivery_eq there]
      exact ⟨avoids', looked⟩
    · rw [e, State.appendQueue_eq there]
      have other : m ≠ k := fun same_ => avoids i r entry live (same_ ▸ action)
      exact ⟨avoids', (Tab.look_put_of_ne _ _ other).trans looked⟩

theorem State.nbr_lossTrigger (s : State) (n : NbrIdx) : s.lossTrigger.nbr n = s.nbr n := by
  obtain ⟨radio, st, ignored, e⟩ := s.lossTrigger_spec
  rw [e]
  rfl

theorem State.nbr_postLink (s : State) (n m : NbrIdx) (cause : LinkCause) (rescue : Option Rescue) :
    (s.postLink n cause rescue).nbr m = s.nbr m := rfl

theorem State.nbr_parkFor (s : State) (n m : NbrIdx) (old new : LinkState) : (s.parkFor n old new).nbr m = s.nbr m := by
  obtain ⟨entries, e⟩ := s.parkFor_spec n old new
  rw [e]
  rfl

/-! ### Parking -/

/-- The parking rule on one entry, as `n` goes from one state to another (R58, R59). -/
theorem State.entry_parkFor (s : State) (n : NbrIdx) (old new : LinkState) (i : EntryIdx) :
    (s.parkFor n old new).entry i = (s.entry i).map fun q =>
      { q with state :=
          if old = .up ∧ new ≠ .up ∧ q.state = .live ∧ q.action = .forward n then .parked
          else if new = .up ∧ old ≠ .up ∧ q.state = .parked ∧ q.action = .forward n then .live
          else q.state } := by
  unfold State.parkFor
  split
  · next leaves =>
    rw [State.entry_park]
    cases s.entry i with
    | none => rfl
    | some q =>
      by_cases here : q.state = .live ∧ q.action = .forward n <;> simp [parkEntry, leaves, here]
  · split
    · next stays enters =>
      rw [State.entry_unpark]
      cases s.entry i with
      | none => rfl
      | some q =>
        by_cases here : q.state = .parked ∧ q.action = .forward n <;> simp [unparkEntry, enters, here]
    · next stays out =>
      cases s.entry i with
      | none => rfl
      | some q => rw [Option.map_some, if_neg fun h => stays ⟨h.1, h.2.1⟩, if_neg fun h => out ⟨h.1, h.2.1⟩]

/-! ### Records after a change of state -/

/-- The record that enters a state (R22). -/
abbrev Nbr.entering (r : Nbr) (new : LinkState) : Nbr := { r with state := new, fade := 0, good := 0, miss := 0 }

theorem State.nbr_changeState_kept {n : NbrIdx} {new : LinkState} (kept : new ≠ .lost) (cause : LinkCause) (m : NbrIdx) :
    (s.changeState n new cause).nbr m = if m = n then (s.nbr n).entering new else s.nbr m := by
  unfold State.changeState State.afterChange
  dsimp only
  rw [if_neg kept, State.nbr_postLink, State.nbr_parkFor, State.nbr_modNbr]
  rfl

theorem State.nbr_changeState_lost (n : NbrIdx) (cause : LinkCause) (m : NbrIdx) :
    (s.changeState n .lost cause).nbr m =
      ((((s.modNbr n fun r => { r.clearRuns with state := .lost }).parkFor n (s.nbr n).state .lost).rescue n).1).nbr m := by
  unfold State.changeState State.afterChange
  dsimp only
  rw [if_pos rfl, State.nbr_postLink, State.nbr_lossTrigger]

/-- Of the other neighbours' records a change of state moves at most the TX sequence counters. -/
theorem State.nbr_changeState_other {n m : NbrIdx} (other : m ≠ n) (new : LinkState) (cause : LinkCause) :
    (s.changeState n new cause).nbr m = { s.nbr m with txSeq := ((s.changeState n new cause).nbr m).txSeq } := by
  have some_ : ∃ q, (s.changeState n new cause).nbr m = { s.nbr m with txSeq := q } := by
    by_cases lost : new = .lost
    · subst lost
      rw [State.nbr_changeState_lost]
      obtain ⟨q, e⟩ := State.nbr_rescue ((s.modNbr n fun r => { r.clearRuns with state := .lost }).parkFor n (s.nbr n).state .lost) n m
      rw [State.nbr_parkFor, State.nbr_modNbr, if_neg other] at e
      exact ⟨q, e⟩
    · rw [State.nbr_changeState_kept lost, if_neg other]
      exact ⟨_, rfl⟩
  obtain ⟨q, e⟩ := some_
  rw [e]

/-- Where the path laws hold, a rescue moves no frame to the neighbour that is lost, and its record is as it entered the state. -/
theorem PathLaw.nbr_changeState (h : PathLaw s) {n : NbrIdx} {new : LinkState} (used : new ≠ .vacant) (cause : LinkCause) :
    (s.changeState n new cause).nbr n = (s.nbr n).entering new := by
  by_cases lost : new = .lost
  · subst lost
    have parked := h.parkFor (n := n) (new := .lost) used
    have state : (((s.modNbr n fun r => { r.clearRuns with state := .lost }).parkFor n (s.nbr n).state .lost).nbr n).state = .lost := by
      rw [State.nbr_parkFor, State.nbr_modNbr_self]
    have avoids : ((s.modNbr n fun r => { r.clearRuns with state := .lost }).parkFor n (s.nbr n).state .lost).Avoids n :=
      fun i r entry live action => by
        have up := ((parked i r entry).1 n action).2.1 live
        rw [state] at up
        cases up
    rw [State.nbr_changeState_lost, avoids.nbr_rescue, State.nbr_parkFor, State.nbr_modNbr_self]
    rfl
  · rw [State.nbr_changeState_kept lost, if_pos rfl]

/-! ### The record after an observation -/

theorem Nbr.observed_eq (r : Nbr) (c : LinkSettings) (sample : Option Int) :
    r.observed c sample =
      { r with
        acc := (match sample with | some x => some (smooth c.k r.acc r.reseed x) | none => r.acc)
        reseed := (match sample with | some _ => false | none => r.reseed)
        fade := (match sample with
          | some x => if smooth c.k r.acc r.reseed x / 16 < c.tF then min 255 (r.fade + 1) else 0
          | none => min 255 (r.fade + 1))
        good := (match sample with
          | some x => if c.tR ≤ smooth c.k r.acc r.reseed x / 16 then min 255 (r.good + 1) else 0
          | none => 0)
        miss := (match sample with | some _ => 0 | none => min 255 (r.miss + 1)) } := by
  cases sample with
  | none => rfl
  | some x =>
    unfold Nbr.observed Nbr.sample runAfter marginOf bump
    simp only [decide_eq_true_eq]

theorem Nbr.transition_lost {r : Nbr} {c : LinkSettings} (heard : r.state.heard = true) (miss : c.missLimit ≤ r.miss) :
    r.transition c = some (.lost, .miss) := if_pos ⟨heard, miss⟩

theorem Nbr.transition_fade {r : Nbr} {c : LinkSettings} (miss : r.miss < c.missLimit) (up : r.state = .up) (fade : c.wF ≤ r.fade) :
    r.transition c = some (.weak, .fade) := by
  unfold Nbr.transition
  rw [if_neg fun h => absurd h.2 (Nat.not_le.2 miss), if_pos ⟨up, fade⟩]

theorem Nbr.transition_recover {r : Nbr} {c : LinkSettings} (miss : r.miss < c.missLimit) (weak : r.state = .weak) (good : c.wR ≤ r.good) :
    r.transition c = some (.up, .recover) := by
  unfold Nbr.transition
  rw [if_neg fun h => absurd h.2 (Nat.not_le.2 miss), if_neg fun h => absurd (h.1.symm.trans weak) (by decide), if_pos ⟨weak, good⟩]

theorem Nbr.transition_none {r : Nbr} {c : LinkSettings} (miss : r.miss < c.missLimit) (fade : r.state = .up → r.fade < c.wF)
    (good : r.state = .weak → r.good < c.wR) : r.transition c = none := by
  unfold Nbr.transition
  rw [if_neg fun h => absurd h.2 (Nat.not_le.2 miss), if_neg fun h => absurd h.2 (Nat.not_le.2 (fade h.1)),
    if_neg fun h => absurd h.2 (Nat.not_le.2 (good h.1))]

end

end Sys2Proof.Machine

namespace Sys2Proof.Proofs

open Sys2Proof Sys2Proof.Machine

/-- Settles O16: the parking as an update of the entries, then the effects of R22 in their order. -/
theorem parkingFollowsTheLinkState : Obligations.ParkingFollowsTheLinkState := by
  intro s n new cause r t parked
  obtain ⟨entries, parks⟩ := (s.modNbr n fun r => { r.clearRuns with state := new }).parkFor_spec n (s.nbr n).state new
  refine ⟨entries, fun i => ?_, ?_⟩
  · have entry := State.entry_parkFor (s.modNbr n fun r => { r.clearRuns with state := new }) n (s.nbr n).state new i
    rw [parks] at entry
    refine entry.trans ?_
    show (s.entry i).map _ = parked (s.entry i)
    cases s.entry i <;> rfl
  · intro changed told
    have isChanged : (s.modNbr n fun r => { r.clearRuns with state := new }).parkFor n (s.nbr n).state new = changed := parks
    have record : changed.nbr n = { r with state := new, fade := 0, good := 0, miss := 0 } := Tab.look_put_self _ _ _
    refine ⟨fun kept => ?_, fun lost => ?_⟩
    · simp only [t]
      unfold State.changeState State.afterChange
      dsimp only
      rw [if_neg kept, isChanged]
      unfold State.postLink
      rw [record]
      rfl
    · intro rescued
      obtain ⟨nbrs, ents, store, spec⟩ := changed.rescue_spec n
      have scan : rescued.1.scan = s.scan := by
        show (changed.rescue n).1.scan = s.scan
        rw [spec]
      have loss : rescued.1.lossTrigger = if s.scan.settings.loss then rescued.1.trigger.1 else rescued.1 := by
        unfold State.lossTrigger
        rw [scan]
      obtain ⟨q, moved⟩ := changed.nbr_rescue n n
      have now : rescued.1.lossTrigger.nbr n = { r with state := new, fade := 0, good := 0, miss := 0, txSeq := q } := by
        rw [State.nbr_lossTrigger, moved, record]
      simp only [t]
      unfold State.changeState State.afterChange
      dsimp only
      rw [if_pos lost, isChanged]
      show rescued.1.lossTrigger.postLink n cause (some rescued.2) = _
      unfold State.postLink
      rw [now, loss]
      rfl

/-- Settles O15: the record as observed, then the first transition that applies. -/
theorem observationsMoveTheLinkState : Obligations.ObservationsMoveTheLinkState := by
  intro s n sample law r c t
  refine ⟨fun unheard => State.observe_discarded unheard sample, fun heard => ?_⟩
  intro acc mark fade good miss observed moved
  have record : r.observed c sample = { r with acc := acc, reseed := mark, fade := fade, good := good, miss := miss } :=
    r.observed_eq c sample
  have applied := State.observe_applied heard sample
  rw [show (s.nbr n).observed s.mon.settings sample = _ from record] at applied
  have lawful : PathLaw observed := law.setNbr n rfl
  have here : observed.nbr n = { r with acc := acc, reseed := mark, fade := fade, good := good, miss := miss } := Tab.look_put_self _ _ _
  have there : ∀ m, m ≠ n → observed.nbr m = s.nbr m := fun m other => Tab.look_put_of_ne _ _ other
  have changes : ∀ {new cause}, new ≠ .vacant →
      Nbr.transition { r with acc := acc, reseed := mark, fade := fade, good := good, miss := miss } c = some (new, cause) →
      moved new cause := fun {new cause} used transition => by
    have e : t = observed.changeState n new cause := by
      rw [show s.mon.settings = c from rfl, transition] at applied
      exact applied
    refine ⟨e, ?_⟩
    rw [e, lawful.nbr_changeState used, here]
  refine ⟨fun lost => changes (by decide) (Nbr.transition_lost heard lost),
    fun few up faded => changes (by decide) (Nbr.transition_fade few up faded),
    fun few weak recovered => changes (by decide) (Nbr.transition_recover few weak recovered), fun few up weak => ?_, fun m other => ?_⟩
  · rw [show s.mon.settings = c from rfl, Nbr.transition_none few up weak] at applied
    exact applied
  · show (s.observe n sample).nbr m = { s.nbr m with txSeq := ((s.observe n sample).nbr m).txSeq }
    rw [applied]
    split
    · next new cause _ =>
      have e := State.nbr_changeState_other (s := observed) other new cause
      rw [there m other] at e
      exact e
    · have kept : ∀ a b : Nbr, a = b → a = { b with txSeq := a.txSeq } := fun a b e => by
        subst e
        rfl
      exact kept _ _ (there m other)

end Sys2Proof.Proofs
end

section
/-! Beacons at the link monitor (R23 to R27), and the end of a dwell (R2, R142 to R144). -/

namespace Sys2Proof.Machine

open Sys2Proof

theorem sampleOf_eq (code floor : Code) : sampleOf code floor = max (-128) (min 383 ((code.toNat : Int) - (floor.toNat : Int))) := by
  unfold sampleOf clampInt
  split_ifs <;> omega

section
variable {s : State}

/-! ### Neighbours found by their node id -/

/-- The records hold the same node ids, and the same of them are VACANT. -/
def State.SameIds (s t : State) : Prop :=
  ∀ n, (t.nbr n).nodeId = (s.nbr n).nodeId ∧ ((t.nbr n).state = .vacant ↔ (s.nbr n).state = .vacant)

theorem State.SameIds.nbrWithId {t : State} (h : s.SameIds t) (id : Nat) : t.nbrWithId id = s.nbrWithId id := by
  unfold State.nbrWithId Tab.lowest
  congr 1
  funext n
  obtain ⟨nodeId, vacant⟩ := h n
  unfold State.nbr at nodeId vacant
  dsimp only
  rw [nodeId, Bool.eq_iff_iff]
  simp only [Bool.and_eq_true, bne_iff_ne, ne_eq, vacant]

theorem State.SameIds.of_nbrs {t : State} (h : t.mon.nbrs = s.mon.nbrs) : s.SameIds t := fun n => by
  rw [State.nbr_eq h n]
  exact ⟨rfl, Iff.rfl⟩

/-- A change of state within the table keeps every node id. -/
theorem State.sameIds_changeState {n : NbrIdx} {new : LinkState} (cause : LinkCause) (used : (s.nbr n).state ≠ .vacant)
    (target : new ≠ .vacant) : s.SameIds (s.changeState n new cause) := fun m => by
  by_cases here : m = n
  · subst here
    have entered : ∃ q, (s.changeState m new cause).nbr m = { (s.nbr m).entering new with txSeq := q } := by
      by_cases lost : new = .lost
      · subst lost
        rw [State.nbr_changeState_lost]
        obtain ⟨q, e⟩ := State.nbr_rescue ((s.modNbr m fun r => { r.clearRuns with state := .lost }).parkFor m (s.nbr m).state .lost) m m
        rw [State.nbr_parkFor, State.nbr_modNbr_self] at e
        exact ⟨q, e⟩
      · rw [State.nbr_changeState_kept lost, if_pos rfl]
        exact ⟨_, rfl⟩
    obtain ⟨q, e⟩ := entered
    rw [e]
    exact ⟨rfl, iff_of_false target used⟩
  · rw [State.nbr_changeState_other here new cause]
    exact ⟨rfl, Iff.rfl⟩

theorem State.sameIds_measure (s : State) (b : HeardBeacon) : s.SameIds (s.measure b) := by
  obtain ⟨_, _, _, _, _, e⟩ := s.measure_spec b
  rw [e]
  exact .of_nbrs rfl

theorem State.SameIds.trans {t u : State} (h : s.SameIds t) (k : t.SameIds u) : s.SameIds u := fun n =>
  ⟨(k n).1.trans (h n).1, (k n).2.trans (h n).2⟩

/-- The link monitor's work keeps every node id. -/
theorem Move.sameIds {t : State} (h : Move s t) : s.SameIds t := by
  cases h with
  | revise n revised =>
    intro m
    rw [State.nbr_setNbr]
    split
    · next here =>
      subst here
      rw [revised.nodeId, revised.state]
      exact ⟨rfl, Iff.rfl⟩
    · exact ⟨rfl, Iff.rfl⟩
  | change n new cause used target placed =>
    refine State.sameIds_changeState cause used fun vacant => ?_
    obtain lost | heard := target
    · rw [vacant] at lost
      cases lost
    · rw [vacant] at heard
      cases heard
  | tell n cause => exact .of_nbrs rfl
  | grow =>
    intro m
    unfold State.nbr
    dsimp only
    rw [Tab.look_each]
    unfold Nbr.grow
    split <;> exact ⟨rfl, Iff.rfl⟩
  | measure b => exact s.sameIds_measure b

theorem State.sameIds_takeBeacon (s : State) (sec : Sector) (b : HeardBeacon) : s.SameIds (s.takeBeacon sec b) :=
  run_keeps (P := s.SameIds) (fun _ _ h k => h.trans k.sameIds) (fun _ => ⟨rfl, Iff.rfl⟩) (moves_takeBeacon s sec b)

/-! ### The scanner's notice stays as it is -/

theorem State.isPending_of_changes {ps : List Piece} {t : State} (k : Changes ps s t) (src : Source)
    (notices : ps.contains .notices = false := by rfl) : t.isPending src = s.isPending src := by
  unfold State.isPending
  rw [show t.link.notices = s.link.notices from k .notices notices]

theorem State.isPending_changeState (n : NbrIdx) (new : LinkState) (cause : LinkCause) :
    (s.changeState n new cause).isPending .scanner = s.isPending .scanner := by
  have parked := (State.isPending_of_changes (changes_parkFor _ n (s.nbr n).state new) .scanner).trans
    (State.isPending_of_changes (changes_setNbr s n { (s.nbr n).clearRuns with state := new }) .scanner)
  have other : Source.link n ≠ .scanner := fun e => nomatch e
  unfold State.changeState State.afterChange
  dsimp only
  split
  · exact (State.isPending_post_other _ other _ _).trans
      ((State.isPending_of_changes (changes_lossTrigger _) .scanner).trans
        ((State.isPending_of_changes (changes_rescue _ n) .scanner).trans parked))
  · exact (State.isPending_post_other _ other _ _).trans parked

theorem State.isPending_measure (s : State) (b : HeardBeacon) : (s.measure b).isPending .scanner = s.isPending .scanner := by
  have other : Source.scheduler ≠ .scanner := fun e => nomatch e
  unfold State.measure
  split
  · rfl
  · split
    · rw [State.judgeDrift_eq]
      split
      · rfl
      · exact State.isPending_post_other _ other _ _
    · rfl

theorem Move.isPending {t : State} (h : Move s t) : t.isPending .scanner = s.isPending .scanner := by
  cases h with
  | revise n revised => rfl
  | change n new cause used target placed => exact State.isPending_changeState n new cause
  | tell n cause =>
    have other : Source.link n ≠ .scanner := fun e => nomatch e
    exact State.isPending_post_other _ other _ _
  | grow => rfl
  | measure b => exact s.isPending_measure b

theorem State.isPending_takeBeacon (s : State) (sec : Sector) (b : HeardBeacon) :
    (s.takeBeacon sec b).isPending .scanner = s.isPending .scanner :=
  run_keeps (P := fun t => t.isPending .scanner = s.isPending .scanner) (fun _ _ h k => k.isPending.trans h) rfl (moves_takeBeacon s sec b)

/-! ### The hand-over -/

/-- One beacon handed over, to the link monitor first (R142). -/
abbrev State.handOver (sec : Sector) (s : State) (b : HeardBeacon) : State := (s.takeBeacon sec b).measure b

/-- What the hand-over of beacons leaves as it was. -/
structure HandedFrom (s t : State) : Prop where
  ids : s.SameIds t
  floors : t.mon.floors = s.mon.floors
  settings : t.scan.settings = s.scan.settings
  part : t.part = s.part
  reply : t.link.reply = s.link.reply
  error : t.link.error = s.link.error
  staged : t.link.staged = s.link.staged
  pending : t.isPending .scanner = s.isPending .scanner

theorem HandedFrom.refl (s : State) : HandedFrom s s := ⟨fun _ => ⟨rfl, Iff.rfl⟩, rfl, rfl, rfl, rfl, rfl, rfl, rfl⟩

theorem HandedFrom.handOver {t : State} (h : HandedFrom s t) (sec : Sector) (b : HeardBeacon) : HandedFrom s (t.handOver sec b) := by
  have ids := (h.ids.trans (t.sameIds_takeBeacon sec b)).trans ((t.takeBeacon sec b).sameIds_measure b)
  have pending := ((t.takeBeacon sec b).isPending_measure b).trans ((t.isPending_takeBeacon sec b).trans h.pending)
  obtain ⟨_, _, _, _, _, _, _, _, taken⟩ := t.takeBeacon_spec sec b
  obtain ⟨_, _, _, _, _, measured⟩ := (t.takeBeacon sec b).measure_spec b
  unfold State.handOver at ids pending ⊢
  rw [measured, taken] at ids pending ⊢
  exact ⟨ids, h.floors, h.settings, h.part, h.reply, h.error, h.staged, pending⟩

theorem HandedFrom.all {t : State} (h : HandedFrom s t) (sec : Sector) (beacons : List HeardBeacon) :
    HandedFrom s (beacons.foldl (State.handOver sec) t) :=
  foldl_keeps (P := HandedFrom s) (State.handOver sec) (fun _ b h => h.handOver sec b) beacons h

/-- The line of a beacon in the scan report, against the floor of the dwell's sector (R143). -/
abbrev State.reportLine (s : State) (sec : Sector) (b : HeardBeacon) : ReportBeacon :=
  { nodeId := b.nodeId, epoch := b.epoch, sample := sampleOf b.code (s.mon.floors.look sec), enrolled := s.nbrWithId b.nodeId }

/-- The hand-over hands over each beacon in the order heard, and its lines are formed as if none had been handed over before. -/
theorem foldl_handOne {t : State} (h : HandedFrom s t) (sec : Sector) (beacons : List HeardBeacon) (lines : List ReportBeacon) :
    beacons.foldl (handOne sec) (t, lines) =
      (beacons.foldl (State.handOver sec) t, lines ++ beacons.map (s.reportLine sec)) := by
  induction beacons generalizing t lines with
  | nil => rw [List.map_nil, List.append_nil]; rfl
  | cons b rest ih =>
    have line : t.reportLine sec b = s.reportLine sec b := by
      unfold State.reportLine
      rw [h.floors, h.ids.nbrWithId]
    rw [List.foldl_cons, List.foldl_cons, List.map_cons, ← line]
    exact (ih (h.handOver sec b) _).trans (by rw [List.append_assoc]; rfl)

/-! ### A beacon's rules -/

theorem State.changeState_kept {n : NbrIdx} {new : LinkState} (kept : new ≠ .lost) (cause : LinkCause) :
    s.changeState n new cause =
      ((s.setNbr n { (s.nbr n).clearRuns with state := new }).parkFor n (s.nbr n).state new).postLink n cause none := if_neg kept

/-- A record in a state is itself with that state. -/
theorem Nbr.with_state {r : Nbr} {st : LinkState} (h : r.state = st) : r = { r with state := st } := by
  subst h
  rfl

theorem Nbr.with_sector {r : Nbr} {sec : Option Sector} (h : r.sector = sec) : { r with sector := sec } = r := by
  subst h
  rfl

/-- The rules for a beacon, by the record that it names (R23). -/
theorem State.takeBeacon_eq {sec : Sector} {b : HeardBeacon} {n : NbrIdx} {x : Int} (found : s.nbrWithId b.nodeId = some n)
    (sample : sampleOf b.code (s.mon.floors.look sec) = x) :
    s.takeBeacon sec b =
      if !(s.nbr n).state.heard then (s.setNbr n ((s.nbr n).recordMargin sec x)).acquire n sec b.epoch x
      else if (s.nbr n).epoch ≠ some b.epoch then (s.setNbr n ((s.nbr n).recordMargin sec x)).epochChange n sec b.epoch x
      else if (s.nbr n).sector = some sec then (s.setNbr n ((s.nbr n).recordMargin sec x)).observe n (some x)
      else (s.setNbr n ((s.nbr n).recordMargin sec x)).handover n sec x := by
  unfold State.takeBeacon
  rw [found]
  dsimp only
  rw [sample, State.nbr_modNbr_self]
  rfl

/-! ### The scanner's next state -/

theorem Sector.next_eq (sec : Sector) : sec + 1 = if h : sec.val < 5 then ⟨sec.val + 1, Nat.succ_lt_succ h⟩ else 0 := by
  revert sec
  decide

end

end Sys2Proof.Machine

namespace Sys2Proof.Proofs

open Sys2Proof Sys2Proof.Machine

/-- Settles O46: the hand-over as a fold, whose lines depend on nothing handed over before, then the report and the next state. -/
theorem dwellEndsReportAndMoveOn : Obligations.DwellEndsReportAndMoveOn := by
  intro s d floored floor handed c onward next line report t
  have written : s.writeFloor d.sector d.quiet = floored := rfl
  have flooredIds : s.SameIds floored := by
    rw [← written]
    unfold State.writeFloor
    cases d.quiet <;> exact .of_nbrs rfl
  have flooredSame : floored.scan = s.scan ∧ floored.part = s.part ∧ floored.link = s.link := by
    rw [← written]
    unfold State.writeFloor
    cases d.quiet <;> exact ⟨rfl, rfl, rfl⟩
  obtain ⟨flooredScan, flooredPart, flooredLink⟩ := flooredSame
  have kept : HandedFrom floored handed := (HandedFrom.refl floored).all d.sector d.beacons
  have lines : floored.reportLine d.sector = line := by
    funext b
    unfold State.reportLine
    rw [flooredIds.nbrWithId, sampleOf_eq]
  have isNext : s.scan.settings.nextState d.sector = next := by
    unfold ScanSettings.nextState
    rw [Sector.next_eq] <;> rfl
  have ended : t = ((handed.postScan d (d.beacons.map line) next).setScan { handed.scan with state := next }) := by
    show s.dwellEnd d = _
    unfold State.dwellEnd
    dsimp only
    rw [written, flooredScan, isNext, foldl_handOne (HandedFrom.refl floored), lines]
    rfl
  have floorKept : handed.mon.floors.look d.sector = floor := by
    rw [kept.floors]
  have settings : handed.scan.settings = c := kept.settings.trans (by rw [flooredScan])
  rw [ended]
  refine ⟨rfl, settings, rfl, kept.floors, rfl, rfl, rfl, rfl, kept.part.trans flooredPart, kept.reply.trans (by rw [flooredLink]),
    kept.error.trans (by rw [flooredLink]), kept.staged.trans (by rw [flooredLink]), fun fresh => ?_⟩
  have none_ : handed.isPending .scanner = false := by
    rw [kept.pending]
    unfold State.isPending
    rw [flooredLink]
    exact fresh
  have alone : ∀ n ∈ handed.link.notices, n.source ≠ .scanner := by
    unfold State.isPending at none_
    simpa using none_
  refine (postInto_fresh _ none alone).trans ?_
  rw [floorKept]

/-- Settles O47: the record that the beacon names, then the rule of its state. -/
theorem beaconsMoveTheNeighbour : Obligations.BeaconsMoveTheNeighbour := by
  refine ⟨fun s sec b none_ => ?_, fun s sec b n used id alone => ?_⟩
  · unfold State.takeBeacon
    rw [(State.nbrWithId_eq_none_iff _).2 none_]
  · intro x c r loaded store told weak held moved t
    have found : s.nbrWithId b.nodeId = some n := State.nbrWithId_eq_some used id alone
    have sample : sampleOf b.code (s.mon.floors.look sec) = x := sampleOf_eq _ _
    have taken := State.takeBeacon_eq found sample
    have here : (store r).nbr n = r := Tab.look_put_self _ _ _
    have again : ∀ new, (store r).setNbr n new = s.setNbr n new := State.setNbr_setNbr n r
    have margin : 16 * x / 16 = x := by omega
    have tells : ∀ (new : Nbr) (cause : LinkCause), new.nodeId = r.nodeId → new.sector = some sec → new.acc = some (16 * x) →
        (s.setNbr n new).postLink n cause none = told (store new) new cause := fun new cause isId isSector isAcc => by
      rw [State.postLink_setNbr, isId, show r.nodeId = some b.nodeId from id, isSector, isAcc, Option.map_some, margin]
      rfl
    have enters : ∀ (met : Nbr) (new : LinkState) (cause : LinkCause), met.state ≠ .up → new ≠ .up → new ≠ .lost →
        ((store r).setNbr n met).changeState n new cause = (s.setNbr n { met.clearRuns with state := new }).postLink n cause none :=
      fun met new cause old up lost => by
        have at_ := State.nbr_setNbr_self (store r) n met
        rw [State.changeState_quiet (by rw [at_]; exact old) up lost, at_, State.setNbr_setNbr]
        rw [again]
    refine ⟨fun unheard => ?_, fun heard => ?_⟩
    · have acquires : t = (store r).acquire n sec b.epoch x := taken.trans (if_pos (by rw [show (s.nbr n).state = r.state from rfl, unheard]; rfl))
      have notUp : r.state ≠ .up := fun up => by
        rw [up] at unheard
        cases unheard
      rw [acquires]
      unfold State.acquire
      dsimp only
      rw [here]
      refine ⟨fun weakSample => ?_, fun strong fresh => ?_, fun strong known other => ?_⟩
      · rw [if_pos weakSample]
        cases sector : r.sector with
        | none => exact State.setNbr_setNbr n r _
        | some a => exact congrArg store (Nbr.with_sector sector).symm
      · rw [if_neg (Int.not_lt.2 strong)]
        have found_ := enters { r.load x with sector := some sec, epoch := some b.epoch } .weak .acquired notUp (by decide) (by decide)
        have told_ := tells weak .acquired rfl rfl rfl
        obtain none_ | same := fresh
        · rw [none_]
          exact found_.trans told_
        · rw [same]
          exact (if_pos rfl).trans (found_.trans told_)
      · rw [if_neg (Int.not_lt.2 strong)]
        cases epoch : r.epoch with
        | none => exact absurd epoch known
        | some e =>
          have changed : e ≠ b.epoch := fun same => other (epoch.trans (congrArg some same))
          exact (if_neg changed).trans ((enters { (r.load x).clearWindow with sector := some sec, epoch := some b.epoch } .held .epoch notUp
            (by decide) (by decide)).trans (tells held .epoch rfl rfl rfl))
    · have rest := taken.trans (if_neg (by rw [show (s.nbr n).state = r.state from rfl, heard]; decide))
      refine ⟨fun changed => ?_, fun same own => ?_, fun a same other acc => ?_⟩
      · have restarts : t = (store r).epochChange n sec b.epoch x := rest.trans (if_pos changed)
        unfold State.epochChange at restarts
        dsimp only at restarts
        rw [here] at restarts
        refine ⟨fun down => ?_, fun up => ?_⟩
        · by_cases isHeld : r.state = .held
          · rw [if_pos isHeld, again] at restarts
            rw [restarts, show ({ (r.load x).clearWindow.clearRuns with sector := some sec, epoch := some b.epoch } : Nbr) = held from
              Nbr.with_state isHeld]
            exact tells held .epoch rfl rfl rfl
          · rw [if_neg isHeld] at restarts
            rw [restarts]
            exact (enters { (r.load x).clearWindow.clearRuns with sector := some sec, epoch := some b.epoch } .held .epoch down
              (by decide) (by decide)).trans (tells held .epoch rfl rfl rfl)
        · rw [if_neg (by rw [up]; decide), State.changeState_kept (by decide), State.nbr_setNbr_self, State.setNbr_setNbr, again] at restarts
          obtain ⟨entries, parks⟩ := (s.setNbr n held).parkFor_spec n .up .held
          refine ⟨entries, ?_, fun i => ?_⟩
          · have parked : t = ((s.setNbr n held).parkFor n r.state .held).postLink n .epoch none := restarts
            have record : ((s.setNbr n held).parkFor n .up .held).nbr n = held := by
              rw [State.nbr_parkFor, State.nbr_setNbr_self]
            rw [parked, up]
            unfold State.postLink
            rw [record, parks]
            show State.post _ (.link n) (.link n r.nodeId .held .epoch (some sec) (some b.epoch) (some (16 * x / 16))) none = _
            rw [margin, show r.nodeId = some b.nodeId from id]
            rfl
          · have entry := (s.setNbr n held).entry_parkFor n .up .held i
            rw [parks] at entry
            refine entry.trans ?_
            show (s.entry i).map _ = _
            cases s.entry i <;> simp
      · exact rest.trans ((if_neg fun other => other same).trans (if_pos own))
      · have hands : t = (store r).handover n sec x := rest.trans ((if_neg fun h => h same).trans (if_neg other))
        unfold State.handover at hands
        dsimp only at hands
        rw [here, acc] at hands
        refine ⟨fun strong better => ?_, fun weaker => ?_⟩
        · rw [hands]
          refine (if_pos ⟨strong, better⟩).trans ?_
          rw [again]
          exact tells moved .handover rfl rfl rfl
        · rw [hands]
          refine if_neg fun h => ?_
          obtain low | low := weaker
          · exact absurd h.1 (Int.not_le.2 low)
          · exact absurd h.2 (Int.not_le.2 low)

end Sys2Proof.Proofs
end

section
/-! Frames that end in a tail or a dwell (R104, R141), and the end of a slot (R92, R105 to R107, R115, R142). -/

namespace Sys2Proof.Machine

open Sys2Proof

section
variable {s : State}

/-! ### Frames in the tail of a TX slot -/

theorem idIs_iff {id : Option Nat} {field : Half} : idIs id field = true ↔ id = some field.toNat := by
  unfold idIs
  rw [beq_iff_eq]

theorem State.ownNodeId_iff {id : Nat} : s.ownNodeId = some id ↔ ∃ i, s.part.identity = some i ∧ i.nodeId = id := by
  unfold State.ownNodeId
  rw [Option.map_eq_some_iff]

/-- A frame is taken by a TX slot in LISTEN, in the tail, while the context names a neighbour. -/
theorem State.txArrival_taken {ctx : TxCtx} {o : OpenSlot} {n : NbrIdx} (tx : s.radio.tx = some ctx) (opened : s.sched.openSlot = some o)
    (listens : ctx.phase = .listen) (tail : o.part = .tail) (named : ctx.nbr = some n) (bytes : List Byte) (code : Code) :
    (parseFrame bytes = none → s.txArrival bytes code = s.countCheckFail)
      ∧ ∀ f, parseFrame bytes = some f → s.txArrival bytes code = s.soundInTail ctx n f code := by
  unfold State.txArrival
  rw [tx, opened]
  dsimp only
  rw [if_pos ⟨listens, tail⟩, named]
  refine ⟨fun failed => ?_, fun f sound => ?_⟩
  · rw [failed]
  · rw [sound]

theorem State.txArrival_ignored (closed : ∀ ctx o, s.radio.tx = some ctx → s.sched.openSlot = some o →
      ctx.phase = .listen → o.part = .tail → ctx.nbr = none) (bytes : List Byte) (code : Code) : s.txArrival bytes code = s := by
  unfold State.txArrival
  split
  next ctx o tx opened =>
    split
    next h =>
      rw [closed ctx o tx opened h.1 h.2]
    next => rfl
  next => rfl

theorem State.soundInTail_ackset {ctx : TxCtx} {n : NbrIdx} {tx rx : Half} {list : List Seq} {code : Code}
    (own : s.ownNodeId = some rx.toNat) (sender : (s.nbr n).nodeId = some tx.toNat) :
    (ctx.ackset = none → s.soundInTail ctx n (.ackset tx rx list) code
        = s.setRadio { s.radio with tx := some { ctx with ackset := some (code, list) } })
      ∧ (ctx.ackset ≠ none → s.soundInTail ctx n (.ackset tx rx list) code = s) := by
  have meant : (idIs s.ownNodeId rx && idIs (s.nbr n).nodeId tx) = true := by
    rw [Bool.and_eq_true, idIs_iff, idIs_iff]
    exact ⟨own, sender⟩
  unfold State.soundInTail
  dsimp only
  rw [if_pos meant]
  refine ⟨fun first => ?_, fun further => ?_⟩
  · rw [first]
  · obtain ⟨a, had⟩ := Option.ne_none_iff_exists'.1 further
    rw [had]

theorem State.soundInTail_foreign {ctx : TxCtx} {n : NbrIdx} {f : AirFrame} {code : Code}
    (other : ∀ tx rx list, f = .ackset tx rx list → ¬ (s.ownNodeId = some rx.toNat ∧ (s.nbr n).nodeId = some tx.toNat)) :
    s.soundInTail ctx n f code = s.countForeign := by
  cases f with
  | ackset tx rx list =>
    have := other tx rx list rfl
    rw [← idIs_iff, ← idIs_iff, ← Bool.and_eq_true] at this
    exact if_neg this
  | _ => rfl

/-! ### Frames in a dwell -/

theorem State.takeQuiet_dwelling {d : Dwell} (dwelling : s.scan.state = .dwelling d) (code : Code) :
    s.takeQuiet code = s.setScan { s.scan with state := .dwelling { d with quiet := some (d.quiet.getD code) } } := by
  unfold State.takeQuiet
  rw [dwelling]
  dsimp only
  cases had : d.quiet with
  | none => rfl
  | some q =>
    have same : ({ d with quiet := some ((some q).getD code) } : Dwell) = d := by
      rw [Option.getD_some, ← had]
    dsimp only
    rw [same]
    exact (congrArg s.setScan (show ({ s.scan with state := .dwelling d } : Scanner) = s.scan by rw [← dwelling])).symm

theorem State.takeQuiet_elsewhere (away : ∀ d, s.scan.state ≠ .dwelling d) (code : Code) : s.takeQuiet code = s := by
  unfold State.takeQuiet
  split
  next d dwelling => exact absurd dwelling (away d)
  next => rfl

theorem State.dwellArrival_taken {d : Dwell} {o : OpenSlot} (dwelling : s.scan.state = .dwelling d)
    (opened : s.sched.openSlot = some o) (past : o.part ≠ .guard) (bytes : List Byte) (code : Code) (time : Nat) :
    s.dwellArrival bytes code time = s.setScan { s.scan with state := .dwelling (d.hear bytes code time) } := by
  unfold State.dwellArrival
  rw [dwelling, opened]
  exact if_neg past

theorem State.dwellArrival_ignored
    (closed : ∀ d o, s.scan.state = .dwelling d → s.sched.openSlot = some o → o.part = .guard) (bytes : List Byte) (code : Code)
    (time : Nat) : s.dwellArrival bytes code time = s := by
  unfold State.dwellArrival
  split
  next d o dwelling opened => exact if_pos (closed d o dwelling opened)
  next => rfl

theorem Dwell.hear_other {d : Dwell} {f : AirFrame} {bytes : List Byte} (sound : parseFrame bytes = some f)
    (other : ∀ id ep sl off, f ≠ .beacon id ep sl off) (code : Code) (time : Nat) :
    d.hear bytes code time = { d with other := bump 255 d.other } := by
  unfold Dwell.hear
  rw [sound]
  cases f with
  | beacon id ep sl off => exact absurd rfl (other id ep sl off)
  | _ => rfl

/-! ### The end of a slot -/

/-- The end of a slot whose owner leaves `u`: contexts gone, front end released, the next slot or the boundary awaited. -/
def State.closed (u : State) (o : OpenSlot) : State :=
  { u with radio := Radio.off, sched := { u.sched with state := .running o.after } }

theorem State.slotEnd_opened {o : OpenSlot} (opened : s.sched.openSlot = some o) : s.slotEnd = (s.endOwner o.kind).closed o := by
  unfold State.slotEnd
  rw [opened]
  rfl

theorem State.slotEnd_unopened (closed : s.sched.openSlot = none) : s.slotEnd = s := by
  unfold State.slotEnd
  rw [closed]

theorem OpenSlot.after_eq (o : OpenSlot) : o.after = if h : o.index.val < 31 then .awaitStart ⟨o.index.val + 1, Nat.succ_lt_succ h⟩
    else if o.boundaryTaken then .awaitStart 0 else .awaitBoundary := by
  unfold OpenSlot.after
  by_cases h : o.index.val < 31
  · rw [dif_pos h, if_neg (fun last => by rw [last] at h; exact absurd h (by decide))]
    have next : o.index + 1 = ⟨o.index.val + 1, Nat.succ_lt_succ h⟩ := Fin.ext (by
      show (o.index.val + 1) % 32 = o.index.val + 1
      exact Nat.mod_eq_of_lt (by omega))
    rw [next]
  · rw [dif_neg h, if_pos (Fin.ext (by have := o.index.isLt; show o.index.val = 31; omega))]

/-- What an owner hands to the link monitor: the sample of a code against the floor of its sector, or a miss. -/
def State.sampled (s : State) (code : Option Code) (sec : Sector) : Option Int :=
  code.map fun c => max (-128) (min 383 ((c.toNat : Int) - ((s.mon.floors.look sec).toNat : Int)))

theorem State.sampled_eq (code : Option Code) (sec : Sector) :
    s.sampled code sec = code.map fun c => sampleOf c (s.mon.floors.look sec) := by
  simp only [State.sampled, sampleOf_eq]

theorem State.rxEnd_eq (ctx : RxCtx) : s.rxEnd ctx = s.observe ctx.nbr (s.sampled ctx.firstCode ctx.sector) := by
  rw [State.sampled_eq]
  rfl

theorem State.floors_settle (n : NbrIdx) (set : List (Handle × Seq)) (list : List Seq) :
    (s.settle n set list).mon.floors = s.mon.floors :=
  changes_settle s n set list .floors rfl

theorem State.txEnd_unnamed {ctx : TxCtx} (unnamed : ctx.nbr = none) : s.txEnd ctx = s := by
  unfold State.txEnd
  rw [unnamed]

theorem State.txEnd_hold {ctx : TxCtx} {n : NbrIdx} (named : ctx.nbr = some n) (hold : ctx.content = .hold) :
    s.txEnd ctx = s.observe n (s.sampled (ctx.ackset.map (·.1)) ctx.sector) := by
  unfold State.txEnd
  rw [named, hold, State.sampled_eq, Option.map_map]
  rfl

theorem State.txEnd_frames {ctx : TxCtx} {n : NbrIdx} {set : List (Handle × Seq)} (named : ctx.nbr = some n)
    (frames : ctx.content = .frames set) :
    s.txEnd ctx = (s.settle n set ((ctx.ackset.map (·.2)).getD [])).observe n (s.sampled (ctx.ackset.map (·.1)) ctx.sector) := by
  have list : (match ctx.ackset with | none => [] | some a => a.2) = (ctx.ackset.map (·.2)).getD [] := by
    cases ctx.ackset <;> rfl
  unfold State.txEnd
  rw [named, frames, State.sampled_eq, Option.map_map]
  dsimp only
  rw [State.floors_settle, ← list]
  rfl

end

end Sys2Proof.Machine

namespace Sys2Proof.Proofs

open Sys2Proof Sys2Proof.Machine

/-- Settles O38, window by window. -/
theorem tailsAndDwellsTakeTheirFrames : Obligations.TailsAndDwellsTakeTheirFrames := by
  refine ⟨fun s bytes code => ?_, fun s => ⟨fun away => ⟨fun code => ?_, fun bytes code time => ?_⟩,
    fun guarded bytes code time => ?_, fun d dwelling => ?_⟩⟩
  · intro command
    refine ⟨fun closed => ?_, fun ctx o n tx opened listens tail named => ?_⟩
    · rw [exec_event_eq (c := command) rfl, State.txArrival_ignored closed]
    intro isAckset
    obtain ⟨failed, sound⟩ := State.txArrival_taken tx opened listens tail named bytes code
    refine ⟨fun bad => ?_, fun f parsed other => ?_, fun f list parsed meant => ?_⟩
    · rw [exec_event_eq (c := command) rfl, failed bad]
      rfl
    · rw [exec_event_eq (c := command) rfl, sound f parsed, State.soundInTail_foreign]
      · rfl
      · rintro tx rx list rfl ⟨own, sender⟩
        exact other list ⟨tx, rx, rfl, State.ownNodeId_iff.1 own, sender⟩
    · obtain ⟨tx, rx, rfl, own, sender⟩ := meant
      obtain ⟨first, further⟩ := State.soundInTail_ackset (ctx := ctx) (list := list) (code := code) (State.ownNodeId_iff.2 own) sender
      refine ⟨fun none => ?_, fun some => ?_⟩
      · rw [exec_event_eq (c := command) rfl, sound _ parsed, first none]
        rfl
      · rw [exec_event_eq (c := command) rfl, sound _ parsed, further some]
  · rw [exec_event_eq (c := .quietCode code) rfl, State.takeQuiet_elsewhere away]
  · rw [exec_event_eq (c := .dwellFrameArrival bytes code time) rfl,
      State.dwellArrival_ignored (fun d _ dwelling => absurd dwelling (away d))]
  · rw [exec_event_eq (c := .dwellFrameArrival bytes code time) rfl,
      State.dwellArrival_ignored (fun _ o _ opened => guarded o opened)]
  · intro now
    refine ⟨fun code => ?_, fun o bytes code time opened past => ?_⟩
    · rw [exec_event_eq (c := .quietCode code) rfl, State.takeQuiet_dwelling dwelling]
      rfl
    have taken : exec (.dwellFrameArrival bytes code time) s = .next (now (d.hear bytes code time)) := by
      rw [exec_event_eq (c := .dwellFrameArrival bytes code time) rfl, State.dwellArrival_taken dwelling opened past]
      rfl
    refine ⟨fun bad => ?_, fun f parsed other => ?_, fun id ep sl off parsed => ?_⟩
    · rw [taken]
      unfold Dwell.hear
      rw [bad]
      rfl
    · rw [taken, Dwell.hear_other parsed other]
      rfl
    · rw [taken]
      unfold Dwell.hear
      rw [parsed]
      rfl

/-- Settles O39, owner by owner. -/
theorem slotEndsRunTheirOwnersWork : Obligations.SlotEndsRunTheirOwnersWork := by
  refine ⟨fun s closed => by rw [exec_event_eq (c := .slotEnd) rfl, State.slotEnd_unopened closed], fun s o opened => ?_⟩
  intro after closed sampled
  have ends : ∀ u, s.endOwner o.kind = u → exec .slotEnd s = .next (closed u) := fun u left => by
    rw [exec_event_eq (c := .slotEnd) rfl, State.slotEnd_opened opened, left]
    unfold State.closed
    rw [OpenSlot.after_eq]
  refine ⟨fun idle => ends s (by rw [idle]; rfl), fun sec beacon => ends s (by rw [beacon]; rfl),
    fun n rx => ⟨fun lost => ends s ?_, fun ctx had => ends _ ?_⟩,
    fun n tx => ⟨fun lost => ends s ?_, fun ctx had => ⟨fun unnamed => ends s ?_,
      fun m named => ⟨fun hold => ends _ ?_, fun set frames => ends _ ?_⟩⟩⟩,
    fun scan => ⟨fun away => ends s ?_, fun d dwelling => ends _ ?_⟩⟩
  · rw [rx, State.endOwner, lost]
  · rw [rx, State.endOwner, had]
    exact State.rxEnd_eq ctx
  · rw [tx, State.endOwner, lost]
  · rw [tx, State.endOwner, had]
    exact State.txEnd_unnamed unnamed
  · rw [tx, State.endOwner, had]
    exact State.txEnd_hold named hold
  · rw [tx, State.endOwner, had]
    exact State.txEnd_frames named frames
  · rw [scan, State.endOwner]
    split
    next d dwelling => exact absurd dwelling (away d)
    next => rfl
  · rw [scan, State.endOwner, dwelling]

end Sys2Proof.Proofs
end

section
/-! The start of a slot (R78, R98, R112, R128, R132, R140), and what goes on the air and comes off it (R91, R99, R102, R103, R112). -/

namespace Sys2Proof.Machine

open Sys2Proof

theorem Holds.any_eq_false_iff (h : Holds) : h.any = false ↔ h = ⟨false, false, false⟩ := by
  obtain ⟨i, p, d⟩ := h
  cases i <;> cases p <;> cases d <;> decide

theorem Holds.any_eq_true_iff (h : Holds) : h.any = true ↔ h.identity = true ∨ h.supply = true ∨ h.drift = true := by
  unfold Holds.any
  rw [Bool.or_eq_true, Bool.or_eq_true, or_assoc]

theorem Holds.any_eq_false_of_not {h : Holds} (clear : ¬ (h.identity = true ∨ h.supply = true ∨ h.drift = true)) : h.any = false := by
  rwa [← Holds.any_eq_true_iff, Bool.not_eq_true] at clear

/-! ### The owner a code names (R120) -/

theorem slotKindOf_tx {c : Half} {n : NbrIdx} (h : c.toNat = 256 + n.val) : slotKindOf c = some (.tx n) := by
  have arg : (256 + n.val) % 256 = n.val := by omega
  have block : (256 + n.val) / 256 = 1 := by omega
  unfold slotKindOf
  rw [h, arg, block]
  dsimp only
  rw [below_of_lt n.isLt]
  rfl

theorem slotKindOf_rx {c : Half} {n : NbrIdx} (h : c.toNat = 512 + n.val) : slotKindOf c = some (.rx n) := by
  have arg : (512 + n.val) % 256 = n.val := by omega
  have block : (512 + n.val) / 256 = 2 := by omega
  unfold slotKindOf
  rw [h, arg, block]
  dsimp only
  rw [below_of_lt n.isLt]
  rfl

theorem slotKindOf_beacon {c : Half} {sec : Sector} (h : c.toNat = 768 + sec.val) : slotKindOf c = some (.beacon sec) := by
  have arg : (768 + sec.val) % 256 = sec.val := by omega
  have block : (768 + sec.val) / 256 = 3 := by omega
  unfold slotKindOf
  rw [h, arg, block]
  dsimp only
  rw [below_of_lt sec.isLt]
  rfl

theorem slotKindOf_idle {c : Half} (h : c.toNat = 0) : slotKindOf c = some .idle := by
  unfold slotKindOf
  rw [h]
  rfl

theorem slotKindOf_scan {c : Half} (h : c.toNat = 1024) : slotKindOf c = some .scan := by
  unfold slotKindOf
  rw [h]
  rfl

/-! ### The start of a slot -/

/-- The correction of slot `i` from the pending measurement (R132). -/
def slotCorrection (i : SlotIdx) : Option Int → Int
  | none => 0
  | some d => if i = 31 then max (-25) (min 25 (d.tdiv 2)) else 0

theorem slotCorrection_eq (i : SlotIdx) (pending : Option Int) :
    (if i = 31 then correctionOf pending else 0) = slotCorrection i pending := by
  cases pending with
  | none => exact ite_self 0
  | some d =>
    have clamped : clampInt (-maxCorrection) maxCorrection (d.tdiv 2) = max (-25) (min 25 (d.tdiv 2)) := by
      unfold clampInt maxCorrection
      split_ifs <;> omega
    exact congrArg (fun x => if i = 31 then x else 0) clamped

section
variable {s : State}

/-- Slot `i` open for `kind`, in its guard (R128, R132). -/
def State.opened (s : State) (i : SlotIdx) (kind : SlotKind) : State :=
  { s with sched :=
    { s.sched with
      state := .running (.opened
        { index := i, kind := kind, part := .guard, corr := slotCorrection i s.sched.pendingD, boundaryTaken := false }),
      pendingD := if i = 31 then none else s.sched.pendingD } }

/-- The start of a slot hands it to the owner that its code names. -/
theorem State.slotStart_due {i : SlotIdx} {kind : SlotKind} (due : s.sched.state = .running (.awaitStart i))
    (given : slotKindOf ((s.sched.map s.sched.active).codes.look i) = some kind) :
    s.slotStart = (s.opened i kind).openOwner i kind := by
  unfold State.slotStart
  rw [due]
  unfold Scheduler.startSlot Scheduler.slotAt
  dsimp only
  rw [given, slotCorrection_eq]
  rfl

theorem State.slotStart_early (early : ∀ i, s.sched.state ≠ .running (.awaitStart i)) : s.slotStart = s := by
  unfold State.slotStart
  split
  next i due => exact absurd due (early i)
  next => rfl

theorem State.openTx_idle {n : NbrIdx} (closed : (s.nbr n).state.heard = false ∨ s.sched.holds.any = true) : s.openTx n = s := by
  unfold State.openTx
  refine if_neg ?_
  rintro ⟨heard, clear⟩
  obtain deaf | held := closed
  · rw [deaf] at heard
    cases heard
  · rw [held] at clear
    cases clear

/-- The transmit context that a TX slot of `n` opens with (R98 to R102). -/
def State.txContext (s : State) (n : NbrIdx) (sec : Sector) (content : TxContent) : TxCtx :=
  let tier := tierOf s.mon.settings (s.nbr n).cap ((s.nbr n).acc.map fun a => a / 16)
  { nbr := some n, sector := sec, tier := tier, cost := byteCost tier, content := content, phase := .burst, ackset := none }

theorem State.openTx_held {n : NbrIdx} {sec : Sector} (held : (s.nbr n).state = .held) (clear : s.sched.holds.any = false)
    (named : (s.nbr n).sector = some sec) :
    s.openTx n = s.setRadio { s.radio with tx := some (s.txContext n sec .hold) } := by
  unfold State.openTx
  rw [if_pos ⟨by rw [held]; rfl, clear⟩, if_pos held, named]
  rfl

theorem State.openBeacon_idle {sec : Sector} (closed : s.part.identity = none ∨ s.sched.holds.any = true) : s.openBeacon sec = s := by
  unfold State.openBeacon
  refine if_neg ?_
  rintro ⟨identified, clear⟩
  obtain anonymous | held := closed
  · rw [anonymous] at identified
    cases identified
  · rw [held] at clear
    cases clear

theorem State.openScan_armed {sec : Sector} (armed : s.scan.state = .armed sec) (i : SlotIdx) :
    (s.isPending .scanner = true → s.openScan i = s.setScan { s.scan with state := .paused sec })
      ∧ (s.isPending .scanner = false → s.openScan i = (s.setScan { s.scan with
          state := .dwelling { sector := sec, count := s.sched.count, slot := i, quiet := none, beacons := [], heard := 0,
                               failed := 0, other := 0 } }).setRadio { s.radio with rxon := true, sector := some sec }) := by
  unfold State.openScan
  rw [armed]
  exact ⟨fun waits => if_pos waits, fun taken => if_neg (by rw [taken]; exact Bool.false_ne_true)⟩

theorem State.openScan_elsewhere (away : ∀ sec, s.scan.state ≠ .armed sec) (i : SlotIdx) : s.openScan i = s := by
  unfold State.openScan
  split
  next sec armed => exact absurd armed (away sec)
  next => rfl

/-! ### The body and the tail -/

theorem State.bodyStart_guard {o : OpenSlot} (opened : s.sched.openSlot = some o) (guard : o.part = .guard) :
    (s.radio.tx = none → s.radio.beacon = none → s.bodyStart = s.enterPart o .body)
      ∧ (∀ ctx, s.radio.tx = some ctx → s.bodyStart = (s.enterPart o .body).startBurst ctx)
      ∧ ∀ sec, s.radio.tx = none → s.radio.beacon = some sec → s.bodyStart = (s.enterPart o .body).startBeacon sec o.index := by
  have radio : (s.enterPart o .body).radio = s.radio := rfl
  unfold State.bodyStart
  rw [opened]
  dsimp only
  rw [if_pos guard, radio]
  refine ⟨fun tx beacon => ?_, fun ctx tx => ?_, fun sec tx beacon => ?_⟩
  · rw [tx, beacon]
  · rw [tx]
  · rw [tx, beacon]

theorem State.bodyStart_past (past : ∀ o, s.sched.openSlot = some o → o.part ≠ .guard) : s.bodyStart = s := by
  unfold State.bodyStart
  split
  next => rfl
  next o opened => exact if_neg (past o opened)

theorem State.tailStart_before {o : OpenSlot} (opened : s.sched.openSlot = some o) (before : o.part ≠ .tail) :
    (s.radio.rx = none → s.tailStart = s.enterPart o .tail)
      ∧ ∀ ctx, s.radio.rx = some ctx → s.tailStart = (s.enterPart o .tail).rxTail ctx := by
  have radio : (s.enterPart o .tail).radio = s.radio := rfl
  unfold State.tailStart
  rw [opened]
  dsimp only
  rw [if_neg before, radio]
  refine ⟨fun rx => ?_, fun ctx rx => ?_⟩
  · rw [rx]
  · rw [rx]

theorem State.tailStart_past (past : ∀ o, s.sched.openSlot = some o → o.part = .tail) : s.tailStart = s := by
  unfold State.tailStart
  split
  next => rfl
  next o opened => exact if_pos (past o opened)

theorem State.endAir_on {kind : AirKind} {air : OnAir} (on : s.radio.onAir = some air) (same : air.kind = kind) :
    s.endAir kind = s.setRadio { s.radio with onAir := none, txon := false } := by
  unfold State.endAir
  rw [on]
  exact if_pos same

theorem State.endAir_off {kind : AirKind} (other : ∀ air, s.radio.onAir = some air → air.kind ≠ kind) : s.endAir kind = s := by
  unfold State.endAir
  split
  next air on => exact if_neg (other air on)
  next => rfl

theorem State.endBurst_on {ctx : TxCtx} {air : OnAir} (tx : s.radio.tx = some ctx) (on : s.radio.onAir = some air) (burst : air.kind = .burst) :
    s.endBurst = s.setRadio { s.radio with tx := some { ctx with phase := .listen }, onAir := none, txon := false, rxon := true } := by
  unfold State.endBurst
  rw [tx, on]
  exact if_pos burst

theorem State.endBurst_off (off : s.radio.tx = none ∨ ∀ air, s.radio.onAir = some air → air.kind ≠ .burst) : s.endBurst = s := by
  unfold State.endBurst
  split
  next ctx air tx on =>
    obtain none | other := off
    · rw [none] at tx
      cases tx
    · exact if_neg (other air on)
  next => rfl

theorem State.ownId_of_identity {i : Identity} (identified : s.part.identity = some i) : s.ownId = BitVec.ofNat 16 i.nodeId := by
  unfold State.ownId
  rw [identified]

theorem Nbr.idField_of_nodeId {r : Nbr} {id : Nat} (known : r.nodeId = some id) : r.idField = BitVec.ofNat 16 id := by
  unfold Nbr.idField
  rw [known]

theorem State.startBurst_named {ctx : TxCtx} {n : NbrIdx} (named : ctx.nbr = some n) :
    s.startBurst ctx = s.setRadio { s.radio with
      txon := true, sector := some ctx.sector,
      onAir := some { kind := .burst, sector := ctx.sector, tier := ctx.tier,
                      frames := (s.contentFrames n ctx.content).map delimited } } := by
  unfold State.startBurst
  rw [named]

theorem State.dataFrame_stored {f : FrameRec} {h : Handle} (stored : s.frame h = some f) (r : Nbr) (q : Seq) :
    s.dataFrame r h q = dataBytes
      { tx := s.ownId, rx := r.idField, seq := q, dest := f.dest, cls := f.cls, hops := f.hops, payload := s.payload f } := by
  unfold State.dataFrame
  rw [stored]

theorem State.rxTail_answers {ctx : RxCtx} (heard : ctx.heard = true) (kept : (s.nbr ctx.nbr).state ≠ .vacant)
    (clear : s.sched.holds = ⟨false, false, false⟩) :
    s.rxTail ctx = s.setRadio { s.radio with
      rxon := false, txon := true, sector := some ctx.sector,
      onAir := some { kind := .ackset, sector := ctx.sector, tier := 0,
                      frames := [delimited (acksetBytes s.ownId (s.nbr ctx.nbr).idField ctx.acks)] } } :=
  if_pos ⟨heard, kept, (Holds.any_eq_false_iff _).2 clear⟩

theorem State.rxTail_silent {ctx : RxCtx}
    (silent : ¬ (ctx.heard = true ∧ (s.nbr ctx.nbr).state ≠ .vacant ∧ s.sched.holds = ⟨false, false, false⟩)) :
    s.rxTail ctx = s.setRadio { s.radio with rxon := false } := by
  rw [← Holds.any_eq_false_iff] at silent
  exact if_neg silent

end

end Sys2Proof.Machine

namespace Sys2Proof.Proofs

open Sys2Proof Sys2Proof.Machine

/-- Settles O35, code by code. -/
theorem slotStartOpensItsOwner : Obligations.SlotStartOpensItsOwner := by
  refine ⟨fun s early => by rw [exec_event_eq (c := .slotStart) rfl, State.slotStart_early early], fun s i due => ?_⟩
  intro code corr opened hold
  have given : ∀ kind t, slotKindOf ((s.sched.map s.sched.active).codes.look i) = some kind →
      (s.opened i kind).openOwner i kind = t → exec .slotStart s = .next t := fun kind t named left => by
    rw [exec_event_eq (c := .slotStart) rfl, State.slotStart_due due named, left]
  have clear : ¬ hold → s.sched.holds.any = false := Holds.any_eq_false_of_not
  have held : hold → s.sched.holds.any = true := (Holds.any_eq_true_iff _).2
  refine ⟨fun idle => given .idle _ (slotKindOf_idle idle) rfl, fun n rx => ?_, fun n tx => ?_, fun sec beacon => ?_, fun scan => ?_⟩
  · refine ⟨fun deaf => given (.rx n) _ (slotKindOf_rx rx) ?_, fun sec heard named => given (.rx n) _ (slotKindOf_rx rx) ?_⟩
    · exact if_neg (by rw [show ((s.opened i (.rx n)).nbr n).state.heard = false from deaf]; exact Bool.false_ne_true)
    · refine (if_pos heard).trans ?_
      rw [show ((s.opened i (.rx n)).nbr n).sector = some sec from named]
      rfl
  · refine ⟨fun closed => given (.tx n) _ (slotKindOf_tx tx) (State.openTx_idle (closed.imp_right held)),
      fun sec isHeld noHold named => given (.tx n) _ (slotKindOf_tx tx) ?_⟩
    exact State.openTx_held (s := s.opened i (.tx n)) isHeld (clear noHold) named
  · refine ⟨fun closed => given (.beacon sec) _ (slotKindOf_beacon beacon) (State.openBeacon_idle (closed.imp_right held)),
      fun identified noHold => given (.beacon sec) _ (slotKindOf_beacon beacon) ?_⟩
    exact if_pos ⟨Option.isSome_iff_ne_none.2 identified, clear noHold⟩
  · refine ⟨fun away => given .scan _ (slotKindOf_scan scan) (State.openScan_elsewhere (s := s.opened i .scan) away i),
      fun sec armed => ?_⟩
    obtain ⟨paused, dwells⟩ := State.openScan_armed (s := s.opened i .scan) armed i
    exact ⟨fun waits => given .scan _ (slotKindOf_scan scan) (paused waits),
      fun taken => given .scan _ (slotKindOf_scan scan) (dwells taken)⟩

/-- Settles O37, event by event. -/
theorem transmissionsStartAndEnd : Obligations.TransmissionsStartAndEnd := by
  refine ⟨fun s past => by rw [exec_event_eq (c := .bodyStart) rfl, State.bodyStart_past past], fun s o opened guard => ?_,
    fun s off => by rw [exec_event_eq (c := .burstEnd) rfl, State.endBurst_off off],
    fun s ctx air tx on burst => by rw [exec_event_eq (c := .burstEnd) rfl, State.endBurst_on tx on burst]; rfl,
    fun s command kind known => ?_,
    fun s past => by rw [exec_event_eq (c := .tailStart) rfl, State.tailStart_past past], fun s o opened before => ?_⟩
  · intro inBody burst
    obtain ⟨nothing, bursts, beacons⟩ := State.bodyStart_guard opened guard
    have begins : ∀ t, s.bodyStart = t → exec .bodyStart s = .next t := fun t same => by
      rw [exec_event_eq (c := .bodyStart) rfl, same]
    refine ⟨fun tx beacon => begins _ (nothing tx beacon), fun ctx tx unnamed => begins _ ?_,
      fun sec i tx beacon identified => begins _ ?_, fun ctx n i id tx named identified known => ?_⟩
    · rw [bursts ctx tx, State.startBurst, unnamed]
      rfl
    · rw [beacons sec tx beacon, State.startBeacon,
        show (s.enterPart o .body).part.identity = some i from identified]
      rfl
    · have own : (s.enterPart o .body).ownId = BitVec.ofNat 16 i.nodeId := State.ownId_of_identity identified
      have peer : ((s.enterPart o .body).nbr n).idField = BitVec.ofNat 16 id := Nbr.idField_of_nodeId known
      have sends : ∀ frames, ((s.enterPart o .body).contentFrames n ctx.content).map delimited = frames →
          exec .bodyStart s = .next (burst ctx frames) := fun frames same => begins _ (by
        rw [bursts ctx tx, State.startBurst_named named, same]
        rfl)
      refine ⟨fun holds => sends _ ?_, fun set content stored => ⟨_, sends _ rfl, ?_, fun k p f here was => ?_⟩⟩
      · rw [holds, State.contentFrames, own, peer]
        rfl
      · rw [content, State.contentFrames, List.length_map, List.length_map]
      · rw [content, State.contentFrames, List.getElem?_map, List.getElem?_map, here, Option.map_some, Option.map_some,
          State.dataFrame_stored (s := s.enterPart o .body) was, own, peer]
        rfl
  · have ends : ∀ t, s.endAir kind = t → exec command s = .next t := by
      rw [List.mem_pair] at known
      obtain beacon | ackset := known
      · obtain ⟨rfl, rfl⟩ := Prod.mk.inj beacon
        exact fun t same => by rw [exec_event_eq (c := .beaconEnd) rfl, same]
      · obtain ⟨rfl, rfl⟩ := Prod.mk.inj ackset
        exact fun t same => by rw [exec_event_eq (c := .acksetEnd) rfl, same]
    exact ⟨fun other => ends s (State.endAir_off other), fun air on same => ends _ (State.endAir_on on same)⟩
  · intro inTail
    obtain ⟨deaf, listens⟩ := State.tailStart_before opened before
    have begins : ∀ t, s.tailStart = t → exec .tailStart s = .next t := fun t same => by
      rw [exec_event_eq (c := .tailStart) rfl, same]
    refine ⟨fun rx => begins _ (deaf rx), fun ctx rx => ?_⟩
    intro answers
    refine ⟨fun silent => begins _ ?_, fun i id answered identified known => begins _ ?_⟩
    · rw [listens ctx rx, State.rxTail_silent (s := s.enterPart o .tail) silent]
      rfl
    · obtain ⟨heard, kept, clear⟩ := answered
      rw [listens ctx rx, State.rxTail_answers (s := s.enterPart o .tail) heard kept clear,
        State.ownId_of_identity (s := s.enterPart o .tail) identified, Nbr.idField_of_nodeId (r := (s.enterPart o .tail).nbr ctx.nbr) known]
      rfl

end Sys2Proof.Proofs
end

section
/-! Frames discarded one after another (R65, R72), and the retire of a neighbour (R30). -/

namespace Sys2Proof.Machine

open Sys2Proof

section
variable {s : State}

/-! ### Discards in a row -/

theorem State.discard_store (s : State) (why : Reason) (h : Handle) :
    s.discard why h = { s with store := (s.discard why h).store } := by
  unfold State.discard State.release
  cases s.frame h <;> rfl

/-- The frames of `out` discarded change the frame store alone. -/
theorem State.discardAll_store (s : State) (why : Reason) (out : List Handle) :
    out.foldl (fun s j => s.discard why j) s = { s with store := (out.foldl (fun s j => s.discard why j) s).store } := by
  induction out generalizing s with
  | nil => rfl
  | cons j rest ih =>
    rw [List.foldl_cons, ih, State.discard_store]

theorem State.frame_discardAll_eq (s : State) (why : Reason) (out : List Handle) (x : Handle) :
    (out.foldl (fun s j => s.discard why j) s).frame x = if x ∈ out then none else s.frame x := by
  induction out generalizing s with
  | nil => rfl
  | cons j rest ih =>
    rw [List.foldl_cons, ih, State.frame_discard]
    by_cases here : x = j
    · rw [if_pos here, ite_self, if_pos (List.mem_cons.2 (.inl here))]
    · by_cases later : x ∈ rest
      · rw [if_pos later, if_pos (List.mem_cons.2 (.inr later))]
      · rw [if_neg later, if_neg here, if_neg (fun m => (List.mem_cons.1 m).elim here later)]

theorem State.discards_discardAll (s : State) (why : Reason) (out : List Handle) :
    (out.foldl (fun s j => s.discard why j) s).store.discards = (fun d => Discards.raise d why)^[out.length] s.store.discards := by
  induction out generalizing s with
  | nil => rfl
  | cons j rest ih =>
    rw [List.foldl_cons, ih, List.length_cons, Function.iterate_succ_apply]
    congr 1
    unfold State.discard State.release
    cases s.frame j <;> rfl

/-- Counts that rise one by one and stop at 65535 rise by their number. -/
theorem bump_iterate {x : Nat} (range : x ≤ 65535) (k : Nat) : (bump 65535)^[k] x = min 65535 (x + k) := by
  induction k generalizing x with
  | zero => exact (min_eq_right range).symm
  | succ k ih =>
    rw [Function.iterate_succ_apply, ih (by unfold bump; omega)]
    unfold bump
    omega

/-- A field changed over and over. -/
theorem iterate_field {D X : Type} {get : D → X} {put : D → X → D} (same : ∀ d, put d (get d) = d)
    (got : ∀ d x, get (put d x) = x) (again : ∀ d x y, put (put d x) y = put d y) (f : X → X) (k : Nat) (d : D) :
    (fun d => put d (f (get d)))^[k] d = put d (f^[k] (get d)) := by
  induction k generalizing d with
  | zero => exact (same d).symm
  | succ k ih => rw [Function.iterate_succ_apply, ih, got, again, Function.iterate_succ_apply]

theorem Discards.raise_retired_iterate {d : Discards} (range : d.retired ≤ 65535) (k : Nat) :
    (fun d => Discards.raise d .retired)^[k] d = { d with retired := min 65535 (d.retired + k) } := by
  rw [← bump_iterate range k]
  exact iterate_field (get := Discards.retired) (put := fun d x => { d with retired := x }) (fun _ => rfl) (fun _ _ => rfl) (fun _ _ _ => rfl) _ k d

/-! ### The retire -/

theorem PathTable.lastAfter_eq (p : PathTable) (freed : Entry → Bool) :
    p.lastAfter freed = p.lastMatch.filter fun i => !freed (p.entries.look i) := by
  unfold PathTable.lastAfter
  cases p.lastMatch with
  | none => rfl
  | some i =>
    dsimp only
    rw [Option.filter_some]
    cases freed (p.entries.look i) <;> rfl

/-- The scheduler after `n` is retired: the alignment state is cleared if it was the sync neighbour (R130). -/
def Scheduler.without (c : Scheduler) (n : NbrIdx) : Scheduler :=
  if c.sync = some n then
    { c with sync := none, pendingD := none, lastD := none, holds := { c.holds with drift := false } }
  else c

/-- The notices after the alignment state is cleared for the retire of `n`: SCHEDULER where a drift was cleared (R130, R133). -/
def State.noticesCleared (s : State) (n : NbrIdx) : List Notice :=
  if s.sched.sync = some n ∧ s.sched.holds.drift = true then
    postInto .scheduler (.scheduler .syncCleared false none none s.sched.count) none s.link.notices
  else s.link.notices

theorem State.clearSync_ended (h : s.ended) (n : NbrIdx) : (if s.sched.sync = some n then s.setSync none else s) =
    { s with sched := s.sched.without n, link := { s.link with notices := s.noticesCleared n } } := by
  unfold Scheduler.without State.noticesCleared
  by_cases sync : s.sched.sync = some n
  · rw [if_pos sync, if_pos sync, State.setSync_ended h]
    by_cases drift : s.sched.holds.drift = true
    · rw [if_pos drift, if_pos ⟨sync, drift⟩]
    · rw [if_neg drift, if_neg (fun both => drift both.2)]
  · rw [if_neg sync, if_neg sync, if_neg (fun both => sync both.1)]

/-- The queue of `n` discarded changes the frame store alone. -/
theorem State.discardQueue_store (s : State) (n : NbrIdx) : s.discardQueue n = { s with store := (s.discardQueue n).store } := by
  unfold State.discardQueue
  rw [State.discardAll_store]
  rfl

/-- The retire of `n` within a request, block by block. -/
theorem State.retire_ended (h : s.ended) (n : NbrIdx) :
    s.retire n =
      { s with
        mon := { s.mon with nbrs := s.mon.nbrs.put n Nbr.vacant }
        path := (s.freeEntries (hopsTo n)).path
        store := ((s.freeEntries (hopsTo n)).discardQueue n).store
        radio := s.radio.retire n
        sched := s.sched.without n
        link := { s.link with
          notices := postInto (.link n) (.link n (s.nbr n).nodeId .vacant .retire none none none) none (s.noticesCleared n) } } := by
  unfold State.retire
  dsimp only
  rw [State.discardQueue_store (s.freeEntries (hopsTo n)) n, State.clearSync_ended (by exact h), State.post_ended (by exact h)]
  rfl

theorem Radio.retire_named {r : Radio} {n : NbrIdx} {ctx : TxCtx} (tx : r.tx = some ctx) (named : ctx.nbr = some n) :
    (ctx.phase = .burst → r.retire n =
        { r with tx := some { ctx with nbr := none, content := .nothing, ackset := none }, txon := false, onAir := none })
      ∧ (ctx.phase = .listen → r.retire n = { r with tx := some { ctx with nbr := none, content := .nothing, ackset := none } }) := by
  unfold Radio.retire
  rw [tx]
  dsimp only
  rw [if_pos named]
  refine ⟨fun burst => ?_, fun listen => ?_⟩
  · rw [burst]
  · rw [listen]

theorem Radio.retire_other {r : Radio} {n : NbrIdx} (other : ∀ ctx, r.tx = some ctx → ctx.nbr ≠ some n) : r.retire n = r := by
  unfold Radio.retire
  split
  next => rfl
  next ctx tx => exact if_neg (other ctx tx)

theorem Radio.rx_retire (r : Radio) (n : NbrIdx) : (r.retire n).rx = r.rx := by
  unfold Radio.retire
  split
  next => rfl
  next ctx tx =>
    split
    · cases ctx.phase <;> rfl
    · rfl

end

end Sys2Proof.Machine

namespace Sys2Proof.Proofs

open Sys2Proof Sys2Proof.Machine

/-- Settles O19: the retire is `State.retire_ended`, read block by block. -/
theorem retireRemovesTheNeighbour : Obligations.RetireRemovesTheNeighbour := by
  have retire : ∀ (s : State) index, s.accepting →
      exec (.neighbourRetire index) s = .next ((s.setPhase .spent).retireRequest index) :=
    fun s index accepting => exec_taken (c := .neighbourRetire index) rfl accepting
  refine ⟨fun s index accepting high => ?_, fun s n accepting vacant => ?_, fun s n accepting used range => ?_⟩
  · rw [retire s index accepting, State.retireRequest, nbrOf_high high]
    rfl
  · rw [retire s _ accepting, State.retireRequest, nbrOf_ofNat]
    exact congrArg _ (if_pos vacant)
  intro names cleared
  have same : names = hopsTo n := by
    funext e
    cases e <;> rfl
  have run : exec (.neighbourRetire (BitVec.ofNat 8 n.val)) s = .next (((s.setPhase .spent).retire n).reply Kind.neighbourRetire .ok
      (.retired (s.path.entries.count (hopsTo n)) (s.queue n).length)) := by
    rw [retire s _ accepting, State.retireRequest, nbrOf_ofNat]
    exact congrArg _ (if_neg used)
  rw [State.retire_ended s.ended_setPhase] at run
  rw [same]
  set freed := (s.setPhase .spent).freeEntries (hopsTo n) with isFreed
  have store := changes_discardQueue freed n
  refine ⟨_, run, Tab.look_put_self _ _ _, fun m other => Tab.look_put_of_ne _ _ other, rfl, rfl, fun i => Tab.look_each _ _ _,
    PathTable.lastAfter_eq _ _, rfl, rfl, rfl, Tab.look_put_self _ _ _, fun m other => ?_, store .delivery rfl, fun h => ?_, ?_,
    store .mem rfl, store .checkFail rfl, store .foreign rfl, fun sync => if_pos sync, fun sync => if_neg sync, rfl, rfl,
    Radio.rx_retire _ _, fun ctx tx named => ?_, fun other => Radio.retire_other other, rfl⟩
  · exact (Tab.look_put_of_ne _ _ other).trans
      (congrArg (·.look m) (changes_foldl (fun s h => s.discard .retired h) id (fun s h => changes_discard s .retired h) (freed.queue n) freed
        .queues rfl))
  · exact State.frame_discardAll_eq freed .retired (s.queue n) h
  · exact (State.discards_discardAll freed .retired (s.queue n)).trans (Discards.raise_retired_iterate range _)
  · obtain ⟨bursting, listening⟩ := Radio.retire_named tx named
    exact ⟨fun burst => bursting burst, fun listen => listening listen⟩

end Sys2Proof.Proofs
end

section
/-! The superframe boundary (R28, R125, R129). -/

namespace Sys2Proof.Machine

open Sys2Proof

/-! ### Operations beside the host link, the monitor and the scheduler -/

/-- The state with host link, monitor and scheduler replaced. -/
def State.over (s : State) (l : HostLink) (m : Monitor) (c : Scheduler) : State := { s with link := l, mon := m, sched := c }

/-- The trigger's state alone. -/
def State.triggered (s : State) : State := s.trigger.1

section
variable {s : State}

/-- A trigger reads and writes scanner and front end alone. -/
theorem State.triggered_over (l : HostLink) (m : Monitor) (c : Scheduler) : (s.over l m c).triggered = s.triggered.over l m c := by
  obtain ⟨link, mon, path, store, radio, sched, scan, part, pending⟩ := s
  obtain ⟨settings, state, ignored⟩ := scan
  unfold State.triggered State.trigger State.over State.restartScan
  dsimp only
  cases state <;> cases settings.mode <;> rfl

theorem State.triggered_iterate_over (k : Nat) (l : HostLink) (m : Monitor) (c : Scheduler) :
    State.triggered^[k] (s.over l m c) = (State.triggered^[k] s).over l m c := by
  induction k generalizing s with
  | zero => rfl
  | succ k ih => rw [Function.iterate_succ_apply, State.triggered_over, ih, Function.iterate_succ_apply]

/-- Triggers leave everything but scanner and front end. -/
theorem State.triggered_iterate_rest (k : Nat) :
    (State.triggered^[k] s).path = s.path ∧ (State.triggered^[k] s).store = s.store ∧ (State.triggered^[k] s).part = s.part := by
  induction k generalizing s with
  | zero => exact ⟨rfl, rfl, rfl⟩
  | succ k ih =>
    obtain ⟨path, store, part⟩ := ih (s := s.triggered)
    obtain ⟨_, _, _, e⟩ := s.trigger_spec
    rw [Function.iterate_succ_apply, path, store, part]
    unfold State.triggered
    rw [e]
    exact ⟨rfl, rfl, rfl⟩

theorem changes_triggered_iterate (k : Nat) : Changes [.radio, .scanState, .ignored] s (State.triggered^[k] s) := by
  induction k generalizing s with
  | zero => exact .refl _ _
  | succ k ih =>
    rw [Function.iterate_succ_apply]
    exact (changes_trigger s).andThen ih

theorem State.lossTrigger_eq (s : State) : s.lossTrigger = State.triggered^[if s.scan.settings.loss then 1 else 0] s := by
  unfold State.lossTrigger
  cases s.scan.settings.loss <;> rfl

theorem State.boundaryTrigger_eq (s : State) : s.boundaryTrigger = State.triggered^[if s.scan.settings.boundary then 1 else 0] s := by
  unfold State.boundaryTrigger
  cases s.scan.settings.boundary <;> rfl

/-! ### The acquisition limit -/

/-- `n` is SEEKING and reaches the acquisition limit at this boundary (R28). -/
def State.timesOut (s : State) (n : NbrIdx) : Bool :=
  decide ((s.nbr n).state = .seeking) && decide (s.mon.settings.acqLimit ≤ min 255 ((s.nbr n).age + 1))

theorem timesOut_iff {n : NbrIdx} : s.timesOut n = true ↔
    (s.nbr n).state = .seeking ∧ s.mon.settings.acqLimit ≤ min 255 ((s.nbr n).age + 1) := by
  unfold State.timesOut
  rw [Bool.and_eq_true, decide_eq_true_iff, decide_eq_true_iff]

/-- The record of a neighbour that timed out. -/
def Nbr.timedOut (r : Nbr) : Nbr := { r with age := min 255 (r.age + 1), state := .lost, fade := 0, good := 0, miss := 0 }

/-- The monitor with every SEEKING neighbour aged. -/
def Monitor.aged (m : Monitor) : Monitor := { m with nbrs := m.nbrs.each Nbr.grow }

/-- The monitor with `n`, a record of `s`, timed out. -/
def State.lose (s : State) (m : Monitor) (n : NbrIdx) : Monitor := { m with nbrs := m.nbrs.put n (s.nbr n).timedOut }

/-- The LINK notice of a neighbour that timed out. -/
def State.timeoutNotice (s : State) (n : NbrIdx) : NoticeContent :=
  .link n (s.nbr n).nodeId .lost .timeout (s.nbr n).sector (s.nbr n).epoch ((s.nbr n).acc.map fun a => a / 16)

/-- The host link with the timeout of `n`, a record of `s`, posted. -/
def State.tellTimeout (s : State) (l : HostLink) (n : NbrIdx) : HostLink :=
  { l with notices := postInto (.link n) (s.timeoutNotice n) (some ⟨0, 0⟩) l.notices,
           phase := carryPosting (.link n) (some ⟨0, 0⟩) l.phase }

theorem Nbr.grow_seeking {r : Nbr} (seeking : r.state = .seeking) : r.grow = { r with age := min 255 (r.age + 1) } := if_pos seeking

theorem Nbr.grow_other {r : Nbr} (other : r.state ≠ .seeking) : r.grow = r := if_neg other

/-- A SEEKING neighbour at the limit, with nothing queued, becomes LOST with its trigger and its notice. -/
theorem timeOut_due {n : NbrIdx} (seeking : (s.nbr n).state = .seeking) (due : s.mon.settings.acqLimit ≤ (s.nbr n).age)
    (empty : s.queue n = []) :
    timeOut s n = (s.setNbr n { s.nbr n with state := .lost, fade := 0, good := 0, miss := 0 }).lossTrigger.postLink n .timeout
      (some ⟨0, 0⟩) := by
  unfold timeOut State.changeState State.afterChange
  rw [if_pos ⟨seeking, due⟩, seeking]
  dsimp only
  rw [if_pos rfl, show State.parkFor _ n .seeking .lost = _ from rfl, State.rescue_empty (by exact empty)]
  rfl

/-- One neighbour at a boundary, in terms of its record in `s`. -/
theorem timeOut_over {w : State} {l : HostLink} {m : Monitor} {c : Scheduler} {n : NbrIdx} (grown : m.nbrs.look n = (s.nbr n).grow)
    (limit : m.settings = s.mon.settings) (empty : (s.nbr n).state = .seeking → w.queue n = []) :
    timeOut (w.over l m c) n = if s.timesOut n = true then
        (State.triggered^[if w.scan.settings.loss then 1 else 0] w).over (s.tellTimeout l n) (s.lose m n) c
      else w.over l m c := by
  have here : (w.over l m c).nbr n = (s.nbr n).grow := grown
  by_cases out : s.timesOut n = true
  · obtain ⟨seeking, due⟩ := timesOut_iff.1 out
    rw [Nbr.grow_seeking seeking] at here
    have aged : (w.over l m c).mon.settings.acqLimit ≤ ((w.over l m c).nbr n).age := by
      rw [here, show (w.over l m c).mon.settings = s.mon.settings from limit]
      exact due
    have record : ((w.over l (s.lose m n) c).nbr n) = (s.nbr n).timedOut := Tab.look_put_self _ _ _
    have set : (w.over l m c).setNbr n { (w.over l m c).nbr n with state := .lost, fade := 0, good := 0, miss := 0 } = w.over l (s.lose m n) c := by
      rw [here]
      rfl
    have settings : (w.over l (s.lose m n) c).scan.settings = w.scan.settings := rfl
    rw [timeOut_due (by rw [here]; exact seeking) aged (empty seeking), set, State.lossTrigger_eq, settings,
      State.triggered_iterate_over, if_pos out]
    unfold State.postLink
    dsimp only
    rw [show ∀ u : State, (u.over l (s.lose m n) c).nbr n = (s.nbr n).timedOut from fun _ => record]
    rfl
  · rw [if_neg out]
    refine if_neg fun both => out ?_
    obtain ⟨seeking, due⟩ := both
    rw [here, Nbr.grow_state] at seeking
    rw [here, Nbr.grow_seeking seeking, show (w.over l m c).mon.settings = s.mon.settings from limit] at due
    exact timesOut_iff.2 ⟨seeking, due⟩

/-- The neighbours of `ns` in turn, in terms of their records in `s`. -/
theorem foldl_timeOut {w : State} {l : HostLink} {m : Monitor} {c : Scheduler} {ns : List NbrIdx} (distinct : ns.Nodup)
    (grown : ∀ n ∈ ns, m.nbrs.look n = (s.nbr n).grow) (limit : m.settings = s.mon.settings)
    (empty : ∀ n, (s.nbr n).state = .seeking → w.queue n = []) :
    ns.foldl timeOut (w.over l m c) =
      (State.triggered^[if w.scan.settings.loss then (ns.filter s.timesOut).length else 0] w).over
        ((ns.filter s.timesOut).foldl s.tellTimeout l) ((ns.filter s.timesOut).foldl s.lose m) c := by
  induction ns generalizing w l m with
  | nil => cases h : w.scan.settings.loss <;> rfl
  | cons n rest ih =>
    obtain ⟨fresh, later⟩ := List.nodup_cons.1 distinct
    have others : ∀ k ∈ rest, (s.lose m n).nbrs.look k = (s.nbr k).grow := fun k there =>
      (Tab.look_put_of_ne _ _ (fun same => fresh (by rwa [← same]))).trans (grown k (.tail _ there))
    rw [List.foldl_cons, timeOut_over (grown n (.head _)) limit (empty n), List.filter_cons]
    by_cases out : s.timesOut n = true
    · rw [if_pos out, if_pos out]
      have kept := changes_triggered_iterate (s := w) (if w.scan.settings.loss then 1 else 0)
      have settings := kept .scanSettings rfl
      have queues := kept .queues rfl
      rw [ih later others limit fun k seeking => (congrArg (·.look k) queues).trans (empty k seeking),
        show (State.triggered^[if w.scan.settings.loss then 1 else 0] w).scan.settings = w.scan.settings from settings,
        ← Function.iterate_add_apply, List.length_cons, List.foldl_cons, List.foldl_cons]
      cases w.scan.settings.loss <;> rfl
    · rw [if_neg out, if_neg out]
      exact ih later (fun k there => grown k (.tail _ there)) limit empty

theorem look_foldl_lose (m : Monitor) (out : List NbrIdx) (k : NbrIdx) :
    (out.foldl s.lose m).nbrs.look k = if k ∈ out then (s.nbr k).timedOut else m.nbrs.look k := by
  induction out generalizing m with
  | nil => rfl
  | cons n rest ih =>
    rw [List.foldl_cons, ih]
    by_cases later : k ∈ rest
    · rw [if_pos later, if_pos (List.mem_cons.2 (.inr later))]
    · rw [if_neg later]
      by_cases here : k = n
      · rw [if_pos (List.mem_cons.2 (.inl here)), here]
        exact Tab.look_put_self _ _ _
      · rw [if_neg (fun there => (List.mem_cons.1 there).elim here later)]
        exact Tab.look_put_of_ne _ _ here

theorem foldl_lose_rest (m : Monitor) (out : List NbrIdx) :
    (out.foldl s.lose m).settings = m.settings ∧ (out.foldl s.lose m).floors = m.floors := by
  induction out generalizing m with
  | nil => exact ⟨rfl, rfl⟩
  | cons n rest ih => exact ih (s.lose m n)

theorem foldl_tellTimeout_rest (l : HostLink) (out : List NbrIdx) :
    (out.foldl s.tellTimeout l).staged = l.staged ∧ (out.foldl s.tellTimeout l).error = l.error
      ∧ (out.foldl s.tellTimeout l).reply = l.reply := by
  induction out generalizing l with
  | nil => exact ⟨rfl, rfl, rfl⟩
  | cons n rest ih => exact ih (s.tellTimeout l n)

/-! ### The staged switch -/

/-- The other map would become active (R125). -/
def State.Switches (s : State) : Prop := s.link.staged = true ∧ (s.sched.map s.sched.other).sum = 65535

/-- A boundary's decision touches host link and scheduler alone. -/
theorem State.decideStaged_over (s : State) : ∃ l c, s.decideStaged = s.over l s.mon c ∧ l.staged = false ∧ l.error = s.link.error
    ∧ l.notices = s.link.notices ∧ l.phase = s.link.phase ∧ (s.link.staged = false → l.reply = s.link.reply)
    ∧ (s.Switches → c = { s.sched with active := s.sched.other }
        ∧ l.reply = some { kind := some 0x14, code := .ok, body := .activeMapAt s.sched.other s.sched.count })
    ∧ (¬ s.Switches → c = s.sched ∧ (s.link.staged = true → l.reply = some
        { kind := some 0x14, code := .mapfault,
          body := .mapFaultAt s.sched.active (s.sched.map s.sched.other).sum s.sched.count })) := by
  unfold State.decideStaged
  dsimp only
  cases staged : s.link.staged with
  | false =>
    rw [if_neg Bool.false_ne_true]
    refine ⟨s.link, s.sched, rfl, staged, rfl, rfl, rfl, fun _ => rfl, fun both => ?_, fun _ => ⟨rfl, fun h => nomatch h⟩⟩
    obtain ⟨isStaged, _⟩ := both
    rw [staged] at isStaged
    cases isStaged
  | true =>
    rw [if_pos rfl]
    by_cases valid : (s.sched.map s.sched.other).sum = 65535
    · rw [Scheduler.switch_valid valid]
      exact ⟨_, _, rfl, rfl, rfl, rfl, rfl, fun h => (nomatch h), fun _ => ⟨rfl, rfl⟩, fun not => absurd ⟨staged, valid⟩ not⟩
    · rw [Scheduler.switch_invalid valid]
      refine ⟨_, _, rfl, rfl, rfl, rfl, rfl, fun h => (nomatch h), fun both => absurd both.2 valid, fun _ => ⟨rfl, fun _ => rfl⟩⟩

/-! ### The boundary -/

theorem State.boundary_due {p : Progress} (due : (s.sched.state = .running .awaitBoundary ∧ p = .awaitStart 0)
      ∨ ∃ o, (s.sched.state = .running (.opened o) ∧ o.index = 31 ∧ o.boundaryTaken = false) ∧ p = .opened { o with boundaryTaken := true }) :
    s.boundary = (s.setSched { s.sched with state := .running p }).boundaryWork := by
  unfold State.boundary
  obtain ⟨awaits, rfl⟩ | ⟨o, ⟨opened, last, untaken⟩, rfl⟩ := due
  · rw [awaits]
  · rw [opened]
    exact if_pos ⟨last, untaken⟩

theorem State.boundary_early (notAwaited : s.sched.state ≠ .running .awaitBoundary)
    (notLast : ∀ o, ¬ (s.sched.state = .running (.opened o) ∧ o.index = 31 ∧ o.boundaryTaken = false)) : s.boundary = s := by
  unfold State.boundary
  split
  next awaits => exact absurd awaits notAwaited
  next o opened => exact if_neg fun due => notLast o ⟨opened, due⟩
  next => rfl

/-- The superframe counted and `p` awaited. -/
def State.counted (s : State) (p : Progress) : State :=
  s.setSched { s.sched with state := .running p, count := s.sched.count + 1 }

/-- The timeouts of `ns` and the BOUNDARY trigger: as many triggers as their sources raise. -/
theorem boundaryTrigger_foldl_timeOut {l : HostLink} {c : Scheduler} {ns : List NbrIdx} (distinct : ns.Nodup)
    (empty : ∀ n, (s.nbr n).state = .seeking → s.queue n = []) :
    (ns.foldl timeOut (s.over l s.mon.aged c)).boundaryTrigger =
      (State.triggered^[(if s.scan.settings.loss then (ns.filter s.timesOut).length else 0)
          + (if s.scan.settings.boundary then 1 else 0)] s).over
        ((ns.filter s.timesOut).foldl s.tellTimeout l) ((ns.filter s.timesOut).foldl s.lose s.mon.aged) c := by
  rw [foldl_timeOut (s := s) (m := s.mon.aged) distinct (fun n _ => Tab.look_each _ _ _) rfl empty, State.boundaryTrigger_eq,
    State.triggered_iterate_over, Nat.add_comm, Function.iterate_add_apply]
  have settings := changes_triggered_iterate (s := s) (if s.scan.settings.loss then (ns.filter s.timesOut).length else 0)
    .scanSettings rfl
  congr 1
  exact congrArg (fun set : ScanSettings => State.triggered^[if set.boundary then 1 else 0] _) settings

/-- A boundary's aging and triggers, over the decision's host link and scheduler. -/
theorem State.ageSeeking_over (s : State) (l : HostLink) (c : Scheduler) :
    (s.over l s.mon c).ageSeeking = (List.finRange 16).foldl timeOut (s.over l s.mon.aged c) := by
  unfold State.ageSeeking
  rfl

end

end Sys2Proof.Machine

namespace Sys2Proof.Proofs

open Sys2Proof Sys2Proof.Machine

/-- Settles O41: the decision (`State.decideStaged_over`), then the aging and the triggers over it (`boundaryTrigger_foldl_timeOut`). -/
theorem boundariesCountDecideAndAge : Obligations.BoundariesCountDecideAndAge := by
  intro s last
  refine ⟨fun notAwaited notLast => by rw [exec_event_eq (c := .superframeBoundary) rfl, State.boundary_early notAwaited notLast], fun p due empty => ?_⟩
  intro other sum switched older lost timedOut triggers triggered
  obtain ⟨l, c, decided, unstaged, error, notices, phase, unasked, switches, stays⟩ :=
    (s.counted p).decideStaged_over
  have run : exec .superframeBoundary s = .next ((State.triggered^[triggers] s).over (timedOut.foldl s.tellTimeout l)
      (timedOut.foldl s.lose s.mon.aged) c) := by
    rw [exec_event_eq (c := .superframeBoundary) rfl, State.boundary_due due]
    refine congrArg Host.Outcome.next ((congrArg (fun u : State => u.ageSeeking.boundaryTrigger) decided).trans ?_)
    refine (congrArg State.boundaryTrigger (State.ageSeeking_over s l c)).trans ?_
    exact boundaryTrigger_foldl_timeOut (List.nodup_finRange 16) empty
  obtain ⟨path, store, part⟩ := State.triggered_iterate_rest (s := s) triggers
  obtain ⟨settings, floors⟩ := foldl_lose_rest (s := s) s.mon.aged timedOut
  obtain ⟨staged, error', reply⟩ := foldl_tellTimeout_rest (s := s) l timedOut
  have record := look_foldl_lose (s := s) s.mon.aged timedOut
  have isOut : ∀ n, n ∈ timedOut ↔ lost n = true := fun n => by
    refine List.mem_filter.trans (and_iff_right (List.mem_finRange n))
  have seeks : ∀ n, lost n = true → (s.nbr n).state = .seeking := fun n out => by
    rw [Bool.and_eq_true, decide_eq_true_iff] at out
    exact out.1
  refine ⟨_, run, fun h => (switches h).1, fun h => (stays h).1, staged.trans unstaged, error'.trans error, fun h => reply.trans (unasked h),
    fun h => reply.trans (switches h).2, fun h not => reply.trans ((stays not).2 h), fun n idle => ?_, fun n seeking young => ?_, fun n out => ?_,
    ?_, ?_, rfl, rfl, settings, floors, path, store, part⟩
  · refine (record n).trans ?_
    rw [if_neg (fun m => idle (seeks n ((isOut n).1 m))), show s.mon.aged.nbrs.look n = (s.nbr n).grow from Tab.look_each _ _ _]
    exact Nbr.grow_other idle
  · refine (record n).trans ?_
    rw [if_neg (fun m => by rw [(isOut n).1 m] at young; cases young), show s.mon.aged.nbrs.look n = (s.nbr n).grow from Tab.look_each _ _ _]
    exact Nbr.grow_seeking seeking
  · exact (record n).trans (if_pos ((isOut n).2 out))
  · rw [← show l.notices = s.link.notices from notices]
    exact (List.foldl_hom (fun link : HostLink => link.notices) (fun _ _ => rfl)).symm
  · rw [← show l.phase = s.link.phase from phase]
    refine (List.foldl_hom (fun link : HostLink => link.phase) (fun link n => ?_)).symm
    show _ = carryPosting (.link n) (some ⟨0, 0⟩) link.phase
    cases link.phase with
    | reading item record carry =>
      obtain ⟨postings, rescue⟩ := carry
      cases rescue <;> rfl
    | _ => rfl

end Sys2Proof.Proofs
end

section
/-! Payloads in the page memory: what is stored reads back, and nothing else is disturbed (R62, R64). -/

namespace Sys2Proof.Machine

open Sys2Proof

/-! ### Pages written and read -/

theorem memReadBytes_congr {m m' : List Host.Cell} {a n : Nat} (same : ∀ i, i < n → memRead m (a + i) = memRead m' (a + i)) :
    memReadBytes m a n = memReadBytes m' a n := by
  refine List.ext_getElem? fun i => ?_
  rw [memReadBytes_getElem?, memReadBytes_getElem?]
  by_cases inside : i < n
  · rw [if_pos inside, if_pos inside, same i inside]
  · rw [if_neg inside, if_neg inside]

/-- A page that is not among those written keeps its bytes. -/
theorem memRead_writePages {m : List Host.Cell} (h : Memory.wf m = true) {pages : List Nat} (bytes : List Byte) {q i : Nat}
    (apart : q ∉ pages) (inside : i < 96) : memRead (writePages m pages bytes) (96 * q + i) = memRead m (96 * q + i) := by
  induction pages generalizing m bytes with
  | nil => rfl
  | cons p ps ih =>
    rw [List.mem_cons, not_or] at apart
    obtain ⟨other, rest⟩ := apart
    rw [writePages, ih (Memory.wf_writeBytes h _ _) _ rest, memRead_writeBytes h]
    by_cases above : pageSize * p ≤ 96 * q + i
    · rw [if_pos above, List.getElem?_eq_none, Option.getD_none]
      have short := List.length_take_le pageSize bytes
      unfold pageSize at above short ⊢
      omega
    · rw [if_neg above]

/-- Pages that are not among those written read as before. -/
theorem readPages_writePages_apart {m : List Host.Cell} (h : Memory.wf m = true) {pages written : List Nat} (bytes : List Byte)
    (apart : ∀ q ∈ pages, q ∉ written) (len : Nat) : readPages (writePages m written bytes) pages len = readPages m pages len := by
  induction pages generalizing len with
  | nil => rfl
  | cons q qs ih =>
    rw [readPages, readPages, ih (fun x there => apart x (.tail _ there))]
    congr 1
    refine memReadBytes_congr fun i inside => memRead_writePages h bytes (apart q (.head _)) ?_
    unfold pageSize at inside
    omega

/-- A payload written into distinct pages, as many as it needs, reads back. -/
theorem readPages_writePages {m : List Host.Cell} (h : Memory.wf m = true) {pages : List Nat} {bytes : List Byte} (distinct : pages.Nodup)
    (enough : pages.length = pagesFor bytes.length) : readPages (writePages m pages bytes) pages bytes.length = bytes := by
  induction pages generalizing m bytes with
  | nil =>
    have empty : bytes.length = 0 := by
      unfold pagesFor at enough
      rw [List.length_nil] at enough
      omega
    rw [List.length_eq_zero_iff.1 empty]
    rfl
  | cons p ps ih =>
    obtain ⟨fresh, distinct⟩ := List.nodup_cons.1 distinct
    have h' := Memory.wf_writeBytes h (pageSize * p) (bytes.take pageSize)
    have first : memReadBytes (writePages (memWriteBytes m (pageSize * p) (bytes.take pageSize)) ps (bytes.drop pageSize)) (pageSize * p)
        (min pageSize bytes.length) = bytes.take pageSize := by
      refine Eq.trans (memReadBytes_congr fun i inside => memRead_writePages h' _ fresh ?_) ?_
      · unfold pageSize at inside
        omega
      · rw [← List.length_take]
        exact memReadBytes_writeBytes h _ _
    have rest := ih (bytes := bytes.drop pageSize) h' distinct (by
      rw [List.length_drop]
      rw [List.length_cons] at enough
      unfold pagesFor pageSize at *
      omega)
    rw [List.length_drop] at rest
    rw [writePages, readPages, first, rest, List.take_append_drop]

/-! ### An allocation -/

/-- One thing of a table replaced: the count falls and rises by what that thing counts. -/
theorem Tab.count_put {α : Type} {n : Nat} (t : Tab α n) (i : Fin n) (x : α) (p : α → Bool) :
    (t.put i x).count p + (if p (t.look i) then 1 else 0) = t.count p + if p x then 1 else 0 := by
  have there : (List.finRange n).Perm (i :: (List.finRange n).erase i) := List.perm_cons_erase (List.mem_finRange i)
  have whole : ∀ u : Tab α n, u.count p
      = ((List.finRange n).erase i).countP (fun j => p (u.look j)) + if p (u.look i) then 1 else 0 := fun u => by
    unfold Tab.count
    rw [← List.countP_eq_length_filter, there.countP_eq, List.countP_cons]
  have others : ((List.finRange n).erase i).countP (fun j => p ((t.put i x).look j))
      = ((List.finRange n).erase i).countP (fun j => p (t.look j)) := by
    refine List.countP_congr fun j here => ?_
    rw [Tab.look_put_of_ne _ _ ((List.nodup_finRange n).mem_erase_iff.1 here).1]
  rw [whole, whole t, others, Tab.look_put_self]
  omega

section
variable {s : State}

/-- The pages that an allocation of `k` pages takes. -/
def State.pagesTaken (s : State) (k : Nat) : List Nat := (takePages k s.store.picks s.store.pool).1

theorem State.length_pagesTaken (k : Nat) : (s.pagesTaken k).length = k := takePages_length _ _ _

/-- The pages taken are distinct, and no record holds one of them. -/
theorem PageLaw.pagesTaken (h : PageLaw s) {k : Nat} (room : k ≤ s.store.freePages) :
    (s.pagesTaken k).Nodup ∧ ∀ j f, s.frame j = some f → ∀ p ∈ f.pages, p ∉ s.pagesTaken k := by
  rw [← h.pool_length] at room
  have pool := takePages_perm k s.store.picks s.store.pool room
  have distinct := h.1.nodup_iff.2 List.nodup_range
  obtain ⟨-, free, apart⟩ := List.nodup_append.1 distinct
  refine ⟨(List.nodup_append.1 (pool.nodup_iff.2 free)).1, fun j f record p held taken => ?_⟩
  refine apart p ?_ p (pool.mem_iff.1 (List.mem_append_left _ taken)) rfl
  rw [FrameStore.pagesInUse_eq, List.mem_flatMap]
  refine ⟨some f, ?_, held⟩
  rw [Tab.toList_eq_map]
  exact List.mem_map.2 ⟨j, List.mem_finRange j, record⟩

variable {h : Handle} {payload : List Byte} (ing : Ingress) (dest : BitVec 12) (cls : BitVec 3) (hops : BitVec 4)

/-- The payload just stored reads back. -/
theorem State.readPages_allocate (mem : MemoryLaw s) (law : PageLaw s) (room : pagesFor payload.length ≤ s.store.freePages) :
    readPages (s.allocate h ing dest cls hops payload).store.mem (s.pagesTaken (pagesFor payload.length)) payload.length = payload :=
  readPages_writePages mem (law.pagesTaken room).1 (State.length_pagesTaken _)

/-- The frames stored before keep their payloads. -/
theorem State.payload_allocate (mem : MemoryLaw s) (law : PageLaw s) (room : pagesFor payload.length ≤ s.store.freePages) {j : Handle}
    {f : FrameRec} (record : s.frame j = some f) : (s.allocate h ing dest cls hops payload).payload f = s.payload f :=
  readPages_writePages_apart mem payload ((law.pagesTaken room).2 j f record) f.len

/-- An allocation in a free record takes its pages from the pool. -/
theorem State.freePages_allocate (law : PageLaw s) (free : s.frame h = none) (room : pagesFor payload.length ≤ s.store.freePages) :
    (s.allocate h ing dest cls hops payload).store.freePages + pagesFor payload.length = s.store.freePages := by
  rw [← law.pool_length] at room ⊢
  have pool := takePages_perm (pagesFor payload.length) s.store.picks s.store.pool room
  have kept : PageLaw (s.allocate h ing dest cls hops payload) := by
    refine law.put (j := h) rfl ?_ fun f e => ?_
    · rw [free]
      exact pool
    · obtain rfl := Option.some.inj e
      exact takePages_length _ _ _
  rw [← kept.pool_length]
  have lengths := pool.length_eq
  rw [List.length_append, takePages_length] at lengths
  exact (Nat.add_comm _ _).trans lengths

theorem State.freeRecords_allocate (free : s.frame h = none) :
    (s.allocate h ing dest cls hops payload).store.freeRecords + 1 = s.store.freeRecords := by
  have counted := Tab.count_put s.store.frames h ((s.allocate h ing dest cls hops payload).frame h) Option.isNone
  rw [show s.store.frames.look h = none from free] at counted
  unfold State.frame State.allocate at counted
  rw [Tab.look_put_self] at counted
  exact counted

end

end Sys2Proof.Machine

namespace Sys2Proof.Proofs

open Sys2Proof Sys2Proof.Machine

/-- Settles O30. -/
theorem storedPayloadsReadBack : Obligations.StoredPayloadsReadBack := by
  intro s h ing dest cls hops payload mem law free room t
  refine ⟨⟨_, Tab.look_put_self _ _ _, rfl, rfl, rfl, rfl, rfl, State.readPages_allocate ing dest cls hops mem law room⟩,
    fun j f other record => ⟨(Tab.look_put_of_ne _ _ other).trans record, State.payload_allocate ing dest cls hops mem law room record⟩,
    State.freePages_allocate ing dest cls hops law free room, State.freeRecords_allocate ing dest cls hops free⟩

end Sys2Proof.Proofs
end

section
/-! FRAME SEND (R74, R75): a lookup, and a frame stored at the tail of a queue or in the delivery queue. -/

namespace Sys2Proof.Machine

open Sys2Proof

section
variable {s : State}

/-! ### A lookup reads and changes the path table alone -/

theorem State.frameLookup_of_path {t : State} (same : t.path = s.path) (q : Key) :
    t.frameLookup q = ((s.frameLookup q).1, { t with path := (s.frameLookup q).2.path }) := by
  unfold State.frameLookup State.entry
  rw [same]
  cases s.path.winner q with
  | none => exact congrArg (Prod.mk none) (show t = { t with path := s.path } by rw [← same])
  | some i =>
    dsimp only
    cases s.path.entries.look i with
    | none => exact congrArg (Prod.mk none) (show t = { t with path := s.path } by rw [← same])
    | some r =>
      unfold State.setEntry
      rw [same]

theorem State.frameLookup_path (q : Key) : (s.frameLookup q).2 = { s with path := (s.frameLookup q).2.path } :=
  congrArg Prod.snd (State.frameLookup_of_path (s := s) rfl q)

/-! ### Frames stored -/

theorem FrameStore.allocHandle_eq_some {st : FrameStore} {len : Nat} {h : Handle} (room : pagesFor len ≤ st.freePages)
    (free : st.frames.look h = none) (lowest : ∀ j, j < h → st.frames.look j ≠ none) : st.allocHandle len = some h := by
  unfold FrameStore.allocHandle
  rw [if_pos room]
  refine Tab.lowest_eq_some.2 ⟨Option.isNone_iff_eq_none.2 free, fun j below => ?_⟩
  exact Option.isNone_eq_false_iff.2 (Option.isSome_iff_ne_none.2 (lowest j below))

theorem FrameStore.allocHandle_eq_none {st : FrameStore} {len : Nat}
    (short : st.freePages < pagesFor len ∨ ∀ h, st.frames.look h ≠ none) : st.allocHandle len = none := by
  unfold FrameStore.allocHandle
  obtain full | used := short
  · exact if_neg (Nat.not_le.2 full)
  · have none_ : st.freeHandle = none := Tab.lowest_eq_none.2 fun j =>
      Option.isNone_eq_false_iff.2 (Option.isSome_iff_ne_none.2 (used j))
    rw [none_]
    exact ite_self none

/-- The record of a frame that is stored: its fixed fields, the pages it takes, and the fields of its place (R63). -/
def State.newRecord (s : State) (ing : Ingress) (dest : BitVec 12) (cls : BitVec 3) (hops : BitVec 4) (payload : List Byte)
    (place : Place) (seq : Option Seq) (retries : Option Nat) (unrouted : Option Bool) : FrameRec :=
  { place := place, ing := ing, dest := dest, cls := cls, hops := hops, len := payload.length,
    pages := s.pagesTaken (pagesFor payload.length), seq := seq, retries := retries, unrouted := unrouted }

variable (h : Handle) (ing : Ingress) (dest : BitVec 12) (cls : BitVec 3) (hops : BitVec 4) (payload : List Byte)

theorem State.frame_allocate_self : (s.allocate h ing dest cls hops payload).frame h =
    some (s.newRecord ing dest cls hops payload .delivery none none none) := Tab.look_put_self _ _ _

/-- A frame stored and queued for `m`, block by block. -/
theorem State.appendQueue_allocate (m : NbrIdx) :
    (s.allocate h ing dest cls hops payload).appendQueue m h =
      { s with
        mon := { s.mon with nbrs := s.mon.nbrs.put m { s.nbr m with txSeq := (s.nbr m).txSeq + 1 } }
        store := { (s.allocate h ing dest cls hops payload).store with
          frames := (s.allocate h ing dest cls hops payload).store.frames.put h
            (some (s.newRecord ing dest cls hops payload (.queue m) (some (s.nbr m).txSeq) (some 0) none))
          queues := s.store.queues.put m (s.queue m ++ [h]) } } :=
  State.appendQueue_eq (s := s.allocate h ing dest cls hops payload) (State.frame_allocate_self h ing dest cls hops payload) m

/-- A frame stored and put in the delivery queue, block by block. -/
theorem State.appendDelivery_allocate (unrouted : Bool) :
    (s.allocate h ing dest cls hops payload).appendDelivery h unrouted =
      { s with store := { (s.allocate h ing dest cls hops payload).store with
          frames := (s.allocate h ing dest cls hops payload).store.frames.put h
            (some (s.newRecord ing dest cls hops payload .delivery none none (some unrouted)))
          delivery := s.store.delivery ++ [h] } } :=
  State.appendDelivery_eq (s := s.allocate h ing dest cls hops payload) (State.frame_allocate_self h ing dest cls hops payload) unrouted

/-- Records other than the one that is filled stay. -/
theorem State.look_allocate_put {j : Handle} (other : j ≠ h) (f : Option FrameRec) :
    ((s.allocate h ing dest cls hops payload).store.frames.put h f).look j = s.frame j :=
  (Tab.look_put_of_ne _ _ other).trans (Tab.look_put_of_ne _ _ other)

/-! ### FRAME SEND -/

theorem hopsTaken_eq (b : Byte) : hopsTaken b = if b = 0 then 8 else if 15 < b.toNat then 15 else b.setWidth 4 := by
  unfold hopsTaken
  exact if_congr ⟨fun zero => BitVec.eq_of_toNat_eq zero, fun zero => by rw [zero]; rfl⟩ rfl rfl

/-- The checks of R74 in their order. -/
theorem State.frameSend_checks {dest : Half} {cls hops : Byte} {payload : List Byte} (some_ : 1 ≤ payload.length)
    (fits : payload.length ≤ 1440) :
    (¬ (1 ≤ dest.toNat ∧ dest.toNat ≤ 4094 ∧ cls.toNat ≤ 7) →
        s.frameSend dest cls hops payload = s.notSent .range (hopsTaken hops) none)
      ∧ (1 ≤ dest.toNat ∧ dest.toNat ≤ 4094 ∧ cls.toNat ≤ 7 →
        (s.part.identity = none → s.frameSend dest cls hops payload = s.notSent .state (hopsTaken hops) none)
          ∧ ∀ i, s.part.identity = some i →
            (dest.toNat = i.nodeId → s.frameSend dest cls hops payload = s.notSent .local (hopsTaken hops) none)
              ∧ (dest.toNat ≠ i.nodeId → s.frameSend dest cls hops payload =
                s.sendFrame (dest.setWidth 12) (cls.setWidth 3) (hopsTaken hops) payload)) := by
  have legal_iff : (legalNodeId dest.toNat && decide (cls.toNat ≤ 7)) = true
      ↔ 1 ≤ dest.toNat ∧ dest.toNat ≤ 4094 ∧ cls.toNat ≤ 7 := by
    rw [Bool.and_eq_true, legalNodeId_iff, decide_eq_true_iff, and_assoc]
  unfold State.frameSend
  rw [if_neg (by omega)]
  refine ⟨fun bad => if_neg (fun ok => bad (legal_iff.1 ok)), fun ok => ?_⟩
  rw [if_pos (legal_iff.2 ok)]
  refine ⟨fun anonymous => ?_, fun i identified => ?_⟩
  · rw [anonymous]
  · rw [identified]
    exact ⟨fun own => if_pos own, fun other => if_neg other⟩

/-- The table of R75, row by row, after the lookup has left `t`. -/
theorem State.sendFrame_eq {asked : Option (EntryIdx × Route)} {t : State}
    (looked : s.frameLookup { dest := dest, cls := cls, ing := .host } = (asked, t)) :
    (asked = none → s.sendFrame dest cls hops payload = t.notSent .noroute hops none)
      ∧ ∀ i r, asked = some (i, r) →
        (r.action = .discard → s.sendFrame dest cls hops payload = (t.countDiscard .action).notSent .discarded hops (some (i, r)))
          ∧ (r.action = .deliver → s.sendFrame dest cls hops payload = t.notSent .local hops (some (i, r)))
          ∧ ∀ m, r.action = .forward m →
            (t.mon.settings.queueLimit ≤ (t.queue m).length → s.sendFrame dest cls hops payload = t.notSent .queue hops (some (i, r)))
              ∧ ((t.queue m).length < t.mon.settings.queueLimit →
                (t.store.allocHandle payload.length = none →
                    s.sendFrame dest cls hops payload = t.notSent .nobuf hops (some (i, r)))
                  ∧ ∀ h, t.store.allocHandle payload.length = some h → s.sendFrame dest cls hops payload =
                    ((t.allocate h .host dest cls hops payload).appendQueue m h).reply Kind.frameSend .ok
                      (.sent h m (t.nbr m).txSeq hops i)) := by
  unfold State.sendFrame
  rw [looked]
  dsimp only
  refine ⟨fun none_ => ?_, fun i r won => ?_⟩
  · rw [none_]
  rw [won]
  dsimp only
  refine ⟨fun action => ?_, fun action => ?_, fun m action => ?_⟩
  · rw [action]
  · rw [action]
  rw [action]
  dsimp only
  refine ⟨fun full => if_neg fun room => absurd ((State.queueHasRoom_iff _ _).1 room) (Nat.not_lt.2 full), fun room => ?_⟩
  rw [if_pos ((State.queueHasRoom_iff _ _).2 room)]
  refine ⟨fun short => ?_, fun h taken => ?_⟩
  · rw [short]
  · rw [taken]

end

end Sys2Proof.Machine

namespace Sys2Proof.Proofs

open Sys2Proof Sys2Proof.Machine

/-- Settles O29, check by check and row by row. -/
theorem frameSendFollowsItsTable : Obligations.FrameSendFollowsItsTable := by
  intro s dest cls hops payload accepting some_ fits taken command legal asked t
  have hopsAre : hopsTaken hops = taken := hopsTaken_eq hops
  have run : ∀ u, (s.setPhase .spent).frameSend dest cls hops payload = u → exec command s = .next u := fun u same => by
    rw [exec_taken (c := command) rfl accepting, same]
  obtain ⟨bad, good⟩ := State.frameSend_checks (s := s.setPhase .spent) (dest := dest) (cls := cls) (hops := hops) some_ fits
  rw [hopsAre] at bad good
  refine ⟨fun illegal => run _ (bad illegal), fun ok anonymous => run _ ((good ok).1 anonymous), fun ident ok identified => ?_⟩
  obtain ⟨own, foreign⟩ := (good ok).2 ident identified
  refine ⟨fun same => run _ (own same), fun other => ?_⟩
  have store : t.store = s.store := State.frameLookup_store _ _
  have mon : t.mon = s.mon := State.frameLookup_mon _ _
  have whole : t = { s with path := t.path } := State.frameLookup_path _
  obtain ⟨noroute, won⟩ := State.sendFrame_eq (s := s.setPhase .spent) (dest.setWidth 12) (cls.setWidth 3) taken payload
    (asked := asked.1) (t := t.setPhase .spent) ((State.frameLookup_of_path (s := s) (t := s.setPhase .spent) rfl _).trans (by
      refine congrArg (Prod.mk asked.1) ?_
      show ({ s.setPhase .spent with path := t.path } : State) = t.setPhase .spent
      rw [whole]
      rfl))
  have sent := foreign other
  refine ⟨fun none_ => run _ (sent.trans (noroute none_)), fun i r entry => ?_⟩
  obtain ⟨discard, deliver, forward⟩ := won i r entry
  refine ⟨fun action => run _ ?_, fun action => run _ ?_, fun m action => ?_⟩
  · rw [sent, discard action, State.notSent, Option.map_some, action]
    rfl
  · rw [sent, deliver action, State.notSent, Option.map_some, action]
    rfl
  obtain ⟨full, room⟩ := forward m action
  have settings : (t.setPhase .spent).mon.settings = s.mon.settings := congrArg (·.settings) mon
  have queue : (t.setPhase .spent).queue m = s.queue m := congrArg (·.queues.look m) store
  have stores : (t.setPhase .spent).store = s.store := store
  rw [settings, queue] at full room
  rw [stores] at room
  refine ⟨fun limit => run _ ?_, fun limit short => run _ ?_, fun h limit pages free lowest => ?_⟩
  · rw [sent, full limit, State.notSent, Option.map_some, action]
    rfl
  · rw [sent, (room limit).1 (FrameStore.allocHandle_eq_none short), State.notSent, Option.map_some, action]
    rfl
  have stored := (room limit).2 h (FrameStore.allocHandle_eq_some pages free lowest)
  refine ⟨({ s with path := t.path } : State).allocate h .host (dest.setWidth 12) (cls.setWidth 3) taken payload |>.appendQueue m h,
    run _ ?_, ?_⟩
  · rw [sent, stored, whole]
    rfl
  rw [State.appendQueue_allocate]
  exact ⟨Tab.look_put_self _ _ _, fun n other => Tab.look_put_of_ne _ _ other, Tab.look_put_self _ _ _,
    fun n other => Tab.look_put_of_ne _ _ other,
    ⟨_, Tab.look_put_self _ _ _, State.length_pagesTaken _, rfl, fun mem law => State.readPages_allocate (s := s) (h := h) .host (dest.setWidth 12)
      (cls.setWidth 3) taken mem law pages⟩,
    fun j other => State.look_allocate_put h .host _ _ taken payload other _,
    fun mem law j g other record => State.payload_allocate (s := s) (h := h) .host (dest.setWidth 12) (cls.setWidth 3) taken mem law pages record,
    rfl, rfl, rfl, rfl, rfl, rfl, rfl, rfl⟩

end Sys2Proof.Proofs
end

section
/-! Arrivals in an RX slot (R78 to R86) and the disposal of an accepted frame (R86 to R90). -/

namespace Sys2Proof.Machine

open Sys2Proof

section
variable {s : State}

/-! ### What an RX slot takes -/

theorem State.rxArrival_taken {ctx : RxCtx} {o : OpenSlot} (rx : s.radio.rx = some ctx) (opened : s.sched.openSlot = some o)
    (body : o.part = .body) (bytes : List Byte) (code : Code) :
    (parseFrame bytes = none → s.rxArrival bytes code = s.countCheckFail)
      ∧ ∀ f, parseFrame bytes = some f → s.rxArrival bytes code = s.soundFrame ctx f code := by
  unfold State.rxArrival
  rw [rx, opened]
  dsimp only
  rw [if_pos body]
  refine ⟨fun failed => ?_, fun f sound => ?_⟩
  · rw [failed]
  · rw [sound]

theorem State.rxArrival_ignored (closed : s.radio.rx = none ∨ ∀ o, s.sched.openSlot = some o → o.part ≠ .body) (bytes : List Byte)
    (code : Code) : s.rxArrival bytes code = s := by
  unfold State.rxArrival
  split
  next ctx o rx opened =>
    obtain none_ | past := closed
    · rw [none_] at rx
      cases rx
    · exact if_neg (past o opened)
  next => rfl

/-- The fields `tx` and `rx` of a frame name the neighbour of the slot and this part (R80). -/
def State.Exchanges (s : State) (n : NbrIdx) (tx rx : Half) : Prop :=
  (∃ i, s.part.identity = some i ∧ i.nodeId = rx.toNat) ∧ (s.nbr n).nodeId = some tx.toNat

theorem State.exchanges_iff {n : NbrIdx} {tx rx : Half} :
    (idIs s.ownNodeId rx && idIs (s.nbr n).nodeId tx) = true ↔ s.Exchanges n tx rx := by
  rw [Bool.and_eq_true, idIs_iff, idIs_iff, State.ownNodeId_iff]
  rfl

theorem State.soundFrame_hold {ctx : RxCtx} {tx rx : Half} {code : Code} :
    (¬ s.Exchanges ctx.nbr tx rx → s.soundFrame ctx (.hold tx rx) code = s.countForeign)
      ∧ (s.Exchanges ctx.nbr tx rx →
        s.soundFrame ctx (.hold tx rx) code = s.setRadio { s.radio with rx := some (ctx.hear code) }) := by
  rw [← State.exchanges_iff]
  exact ⟨fun foreign => if_neg foreign, fun meant => if_pos meant⟩

theorem State.soundFrame_data {ctx : RxCtx} {d : DataFrame} {code : Code} :
    (¬ s.Exchanges ctx.nbr d.tx d.rx → s.soundFrame ctx (.data d) code = s.countForeign)
      ∧ (s.Exchanges ctx.nbr d.tx d.rx → s.soundFrame ctx (.data d) code =
        (s.setRadio { s.radio with rx := some (ctx.hear code) }).validData (ctx.hear code) d) := by
  rw [← State.exchanges_iff]
  exact ⟨fun foreign => if_neg foreign, fun meant => if_pos meant⟩

theorem RxCtx.hear_eq (ctx : RxCtx) (code : Code) :
    ctx.hear code = { ctx with heard := true, firstCode := some (ctx.firstCode.getD code) } := by
  unfold RxCtx.hear
  cases ctx.firstCode <;> rfl

theorem addAck_eq (acks : List Seq) (q : Seq) : addAck acks q = if q ∈ acks ∨ 8 ≤ acks.length then acks else acks ++ [q] := by
  unfold addAck
  refine if_congr ?_ rfl rfl
  rw [Bool.or_eq_true, List.contains_iff_mem, decide_eq_true_iff]

/-- DATA by the state of the neighbour that sent it (R81). -/
theorem State.validData_eq (ctx : RxCtx) (d : DataFrame) :
    ((s.nbr ctx.nbr).state = .held →
        s.validData ctx d = s.modCounters ctx.nbr fun c => { c with refused := bump 65535 c.refused })
      ∧ ((s.nbr ctx.nbr).state.heard = false → s.validData ctx d = s)
      ∧ ((s.nbr ctx.nbr).state = .up ∨ (s.nbr ctx.nbr).state = .weak → s.validData ctx d = s.judgeData ctx d) := by
  unfold State.validData
  refine ⟨fun held => ?_, fun deaf => ?_, fun active => ?_⟩
  · rw [held]
  · cases state : (s.nbr ctx.nbr).state with
    | up | weak | held =>
      rw [state] at deaf
      cases deaf
    | vacant | seeking | lost => rfl
  · obtain up | weak := active
    · rw [up]
    · rw [weak]

/-- DATA by its class against the window (R84, R85). -/
theorem State.judgeData_eq (ctx : RxCtx) (d : DataFrame) :
    ((s.nbr ctx.nbr).classify d.seq = .duplicate → s.judgeData ctx d =
        (s.acknowledge ctx d.seq).modCounters ctx.nbr fun c => { c with duplicates := bump 65535 c.duplicates })
      ∧ ((s.nbr ctx.nbr).classify d.seq = .stale → s.judgeData ctx d =
        (s.acknowledge ctx d.seq).modCounters ctx.nbr fun c => { c with stale := bump 65535 c.stale })
      ∧ ((s.nbr ctx.nbr).classify d.seq = .fresh →
        (s.store.allocHandle d.payload.length = none → s.judgeData ctx d =
            s.modCounters ctx.nbr fun c => { c with refused := bump 65535 c.refused })
          ∧ ∀ h, s.store.allocHandle d.payload.length = some h → s.judgeData ctx d =
            (((s.modNbr ctx.nbr fun r => r.accept d.seq).acknowledge ctx d.seq).modCounters ctx.nbr
              fun c => { c with received := bump 65535 c.received }).dispose ctx.nbr h d) := by
  unfold State.judgeData
  dsimp only
  refine ⟨fun kind => ?_, fun kind => ?_, fun kind => ?_⟩
  · rw [kind]
  · rw [kind]
  · rw [kind]
    dsimp only
    refine ⟨fun short => ?_, fun h taken => ?_⟩
    · rw [short]
    · rw [taken]

/-! ### The disposal of an accepted frame -/

/-- The frame stored and delivered (R87, R88). -/
def State.deliverData (s : State) (n : NbrIdx) (h : Handle) (d : DataFrame) (unrouted : Bool) : State :=
  (s.allocate h (.nbr n) d.dest d.cls d.hops d.payload).appendDelivery h unrouted

/-- The frame stored and queued for `m` with its hops less one (R88). -/
def State.relayData (s : State) (n : NbrIdx) (h : Handle) (d : DataFrame) (m : NbrIdx) : State :=
  (s.allocate h (.nbr n) d.dest d.cls (d.hops - 1) d.payload).appendQueue m h

/-- The ways an accepted frame from `n` can end (R87, R88). -/
inductive Disposal (s : State) (n : NbrIdx) (h : Handle) (d : DataFrame) : State → Prop where
  | delivered (unrouted : Bool) : Disposal s n h d (s.deliverData n h d unrouted)
  | relayed (m : NbrIdx) (other : m ≠ n) : Disposal s n h d (s.relayData n h d m)
  | dropped (why : Reason) : Disposal s n h d (s.countDiscard why)

theorem State.dispose_own {n : NbrIdx} {h : Handle} {d : DataFrame} (own : s.ownNodeId = some d.dest.toNat) :
    s.dispose n h d = s.deliverData n h d false := if_pos own

/-- A frame for another node, by the lookup that has left `t` (R88). -/
theorem State.dispose_looked {n : NbrIdx} {h : Handle} {d : DataFrame} {asked : Option (EntryIdx × Route)} {t : State}
    (foreign : s.ownNodeId ≠ some d.dest.toNat)
    (looked : s.frameLookup { dest := d.dest, cls := d.cls, ing := .nbr n } = (asked, t)) :
    (asked = none → s.dispose n h d = t.deliverData n h d true)
      ∧ ∀ i r, asked = some (i, r) →
        (r.action = .discard → s.dispose n h d = t.countDiscard .action)
          ∧ (r.action = .deliver → s.dispose n h d = t.deliverData n h d false)
          ∧ (r.action = .forward n → s.dispose n h d = t.countDiscard .reflect)
          ∧ ∀ m, m ≠ n → r.action = .forward m →
            (d.hops.toNat ≤ 1 → s.dispose n h d = t.countDiscard .hops)
              ∧ (1 < d.hops.toNat →
                ((t.queue m).length < t.mon.settings.queueLimit → s.dispose n h d = t.relayData n h d m)
                  ∧ (t.mon.settings.queueLimit ≤ (t.queue m).length → s.dispose n h d = t.countDiscard .queue)) := by
  unfold State.dispose
  dsimp only
  rw [if_neg foreign, looked]
  dsimp only
  refine ⟨fun none_ => ?_, fun i r won => ?_⟩
  · rw [none_]
    rfl
  rw [won]
  dsimp only
  refine ⟨fun action => ?_, fun action => ?_, fun action => ?_, fun m other action => ?_⟩
  · rw [action]
  · rw [action]
    rfl
  · rw [action]
    exact if_pos rfl
  rw [action]
  dsimp only
  rw [if_neg other]
  refine ⟨fun few => if_pos few, fun enough => ?_⟩
  rw [if_neg (Nat.not_le.2 enough)]
  exact ⟨fun room => if_pos ((State.queueHasRoom_iff _ _).2 room),
    fun full => if_neg fun room => absurd ((State.queueHasRoom_iff _ _).1 room) (Nat.not_lt.2 full)⟩

/-- Whatever its row of the table, the disposal is one of three. -/
theorem State.dispose_disposal {n : NbrIdx} {h : Handle} {d : DataFrame} :
    (s.ownNodeId = some d.dest.toNat → Disposal s n h d (s.dispose n h d))
      ∧ (s.ownNodeId ≠ some d.dest.toNat →
        Disposal (s.frameLookup { dest := d.dest, cls := d.cls, ing := .nbr n }).2 n h d (s.dispose n h d)) := by
  refine ⟨fun own => State.dispose_own own ▸ .delivered false, fun foreign => ?_⟩
  unfold State.dispose
  dsimp only
  rw [if_neg foreign]
  split
  · exact .delivered true
  · split
    · exact .dropped _
    · exact .delivered false
    · split
      · exact .dropped _
      · next m _ apart =>
        split
        · exact .dropped _
        · split
          · exact .relayed m apart
          · exact .dropped _

section
variable {n : NbrIdx} {h : Handle} {d : DataFrame} {t : State} (k : Disposal s n h d t)
include k

/-- What every disposal leaves. -/
theorem Disposal.rest : t.radio = s.radio ∧ t.mon.settings = s.mon.settings ∧ t.mon.floors = s.mon.floors ∧ t.link = s.link
    ∧ t.sched = s.sched ∧ t.scan = s.scan ∧ t.part = s.part ∧ t.path = s.path
    ∧ t.store.checkFail = s.store.checkFail ∧ t.store.foreign = s.store.foreign := by
  cases k <;> exact ⟨rfl, rfl, rfl, rfl, rfl, rfl, rfl, rfl, rfl, rfl⟩

/-- The record of the neighbour that sent the frame stays. -/
theorem Disposal.nbr : t.nbr n = s.nbr n := by
  cases k with
  | delivered | dropped => rfl
  | relayed m other => exact Tab.look_put_of_ne _ _ other.symm

/-- The frames stored before stay. -/
theorem Disposal.frame {j : Handle} (other : j ≠ h) : t.frame j = s.frame j := by
  cases k with
  | delivered unrouted =>
    unfold State.deliverData
    rw [State.appendDelivery_allocate]
    exact State.look_allocate_put _ _ _ _ _ _ other _
  | relayed m =>
    unfold State.relayData
    rw [State.appendQueue_allocate]
    exact State.look_allocate_put _ _ _ _ _ _ other _
  | dropped => rfl

/-- So do their payloads. -/
theorem Disposal.payload (mem : MemoryLaw s) (law : PageLaw s) (room : pagesFor d.payload.length ≤ s.store.freePages) {j : Handle}
    {g : FrameRec} (record : s.frame j = some g) : t.payload g = s.payload g := by
  cases k with
  | delivered => exact State.payload_allocate (h := h) (.nbr n) d.dest d.cls d.hops mem law room record
  | relayed m => exact State.payload_allocate (h := h) (.nbr n) d.dest d.cls (d.hops - 1) mem law room record
  | dropped => rfl

end

/-- The state in which a new frame is disposed of: marked seen, acknowledged and counted (R86, R90). -/
def State.acceptData (s : State) (ctx : RxCtx) (q : Seq) : State :=
  { s with
    radio := { s.radio with rx := some { ctx with acks := addAck ctx.acks q } }
    mon := { s.mon with
      nbrs := s.mon.nbrs.put ctx.nbr { (s.nbr ctx.nbr).accept q with
        counters := { (s.nbr ctx.nbr).counters with received := min 65535 ((s.nbr ctx.nbr).counters.received + 1) } } } }

theorem State.acceptData_eq (ctx : RxCtx) (q : Seq) :
    (((s.modNbr ctx.nbr fun r => r.accept q).acknowledge ctx q).modCounters ctx.nbr
      fun c => { c with received := bump 65535 c.received }) = s.acceptData ctx q := by
  obtain ⟨high, seen, accepted⟩ := (s.nbr ctx.nbr).accept_spec q
  have here : ((s.modNbr ctx.nbr fun r => r.accept q).acknowledge ctx q).nbr ctx.nbr = (s.nbr ctx.nbr).accept q :=
    Tab.look_put_self _ _ _
  refine (congrArg (fun r : Nbr => ((s.modNbr ctx.nbr fun r => r.accept q).acknowledge ctx q).setNbr ctx.nbr
    { r with counters := { r.counters with received := bump 65535 r.counters.received } }) here).trans ?_
  unfold State.setNbr State.acknowledge State.modNbr State.acceptData State.setNbr State.setRadio
  dsimp only
  rw [Tab.put_put, accepted]
  rfl

end

end Sys2Proof.Machine

namespace Sys2Proof.Proofs

open Sys2Proof Sys2Proof.Machine

/-- Settles O33, in the order of the checks. -/
theorem receivedFramesAreJudgedInOrder : Obligations.ReceivedFramesAreJudgedInOrder := by
  intro s bytes code command
  have run : ∀ t, s.rxArrival bytes code = t → exec command s = .next t := fun t same => by
    rw [exec_event_eq (c := command) rfl, same]
  refine ⟨fun closed => run _ (State.rxArrival_ignored closed bytes code), fun ctx o rx opened body => ?_⟩
  intro n r heard listed outcome exchange foreign
  obtain ⟨failed, sound⟩ := State.rxArrival_taken rx opened body bytes code
  have hears : ctx.hear code = heard := ctx.hear_eq code
  refine ⟨fun bad => run _ (failed bad), fun f parsed other => run _ ?_, fun tx rx' parsed meant => run _ ?_, fun d parsed meant => ?_⟩
  · rw [sound f parsed]
    cases f with
    | hold tx rx => exact State.soundFrame_hold.1 other
    | data d => exact State.soundFrame_data.1 other
    | ackset | beacon => rfl
  · rw [sound _ parsed, State.soundFrame_hold.2 meant, hears]
    rfl
  have taken : s.rxArrival bytes code = (s.setRadio { s.radio with rx := some heard }).validData heard d := by
    rw [sound _ parsed, State.soundFrame_data.2 meant, hears]
  obtain ⟨held, deaf, active⟩ := State.validData_eq (s := s.setRadio { s.radio with rx := some heard }) heard d
  refine ⟨fun state => run _ (taken.trans (held state)), fun state => run _ (taken.trans (deaf state)), fun state => ?_⟩
  obtain ⟨duplicate, stale, fresh⟩ := State.judgeData_eq (s := s.setRadio { s.radio with rx := some heard }) heard d
  have judged := taken.trans (active state)
  refine ⟨fun kind => run _ ?_, fun kind => run _ ?_, fun kind short => run _ ?_⟩
  · rw [judged, duplicate kind, State.acknowledge, addAck_eq]
    rfl
  · rw [judged, stale kind, State.acknowledge, addAck_eq]
    rfl
  · rw [judged, (fresh kind).1 (FrameStore.allocHandle_eq_none short)]
    rfl

/-- Settles O34, row by row of the table; what every row leaves is `Disposal.rest` and its companions. -/
theorem acceptedFramesFollowTheTable : Obligations.AcceptedFramesFollowTheTable := by
  intro s bytes code ctx o d ident h rx opened body parsed identified forUs fromThem active kind pages free lowest n r asked own listed
    accepted
  set u := (s.setRadio { s.radio with rx := some (ctx.hear code) }).acceptData (ctx.hear code) d.seq with isU
  have run : exec (.rxFrameArrival bytes code) s = .next (u.dispose n h d) := by
    rw [exec_event_eq (c := .rxFrameArrival bytes code) rfl, (State.rxArrival_taken rx opened body bytes code).2 _ parsed,
      State.soundFrame_data.2 ⟨⟨ident, identified, forUs⟩, fromThem⟩,
      (State.validData_eq (s := s.setRadio { s.radio with rx := some (ctx.hear code) }) (ctx.hear code) d).2.2 active,
      ((State.judgeData_eq (s := s.setRadio { s.radio with rx := some (ctx.hear code) }) (ctx.hear code) d).2.2 kind).2 h
        (FrameStore.allocHandle_eq_some pages free lowest), State.acceptData_eq]
    rfl
  have ownId : u.ownNodeId = some d.dest.toNat ↔ own := by
    rw [State.ownNodeId_iff]
    refine ⟨fun ⟨i, known, same⟩ => ?_, fun same => ⟨ident, identified, same⟩⟩
    obtain rfl : ident = i := Option.some.inj (identified.symm.trans known)
    exact same
  have here : u.nbr n = accepted := Tab.look_put_self _ _ _
  have others : ∀ m, m ≠ n → u.nbr m = s.nbr m := fun m other => Tab.look_put_of_ne _ _ other
  have radio : u.radio = { s.radio with rx := some listed } := by
    rw [isU, State.acceptData, RxCtx.hear_eq, addAck_eq]
    rfl
  have looked : u.frameLookup { dest := d.dest, cls := d.cls, ing := .nbr n } = (asked.1, { u with path := asked.2.path }) :=
    State.frameLookup_of_path (s := s) (t := u) rfl _
  obtain ⟨p, k, ownPath, otherPath⟩ : ∃ p, Disposal { u with path := p } n h d (u.dispose n h d)
      ∧ (own → p = s.path) ∧ (¬ own → p = asked.2.path) := by
    by_cases isOwn : own
    · exact ⟨s.path, State.dispose_disposal.1 (ownId.2 isOwn), fun _ => rfl, fun not => absurd isOwn not⟩
    · refine ⟨asked.2.path, ?_, fun yes => absurd yes isOwn, fun _ => rfl⟩
      have k := (State.dispose_disposal (s := u) (n := n) (h := h) (d := d)).2 (fun same => isOwn (ownId.1 same))
      rwa [looked] at k
  obtain ⟨radio', settings, floors, link, sched, scan, part, path, checkFail, foreign⟩ := k.rest
  refine ⟨_, run, radio'.trans radio, k.nbr.trans here, settings, floors, link, sched, scan, part, checkFail, foreign,
    fun j other => k.frame other, fun mem law j g _ record => k.payload mem law pages record, fun isOwn => path.trans (ownPath isOwn),
    fun isOther => path.trans (otherPath isOther), ?_⟩
  intro stored delivered relayed dropped was
  have delivers : ∀ p b, u.dispose n h d = State.deliverData { u with path := p } n h d b → delivered b := by
    intro p b same
    dsimp only [delivered, stored]
    rw [same, State.deliverData, State.appendDelivery_allocate]
    exact ⟨⟨rfl, _, Tab.look_put_self _ _ _, rfl, rfl, rfl, rfl, rfl, rfl, State.length_pagesTaken _, rfl, rfl, rfl,
      fun mem law => State.readPages_allocate (s := s) (h := h) (.nbr n) d.dest d.cls d.hops mem law pages⟩, rfl, fun _ => rfl, others⟩
  have relays : ∀ p m, m ≠ n → u.dispose n h d = State.relayData { u with path := p } n h d m → relayed m := by
    intro p m other same
    dsimp only [relayed, stored]
    rw [same, State.relayData, State.appendQueue_allocate, ← others m other]
    exact ⟨⟨rfl, _, Tab.look_put_self _ _ _, rfl, rfl, rfl, rfl, rfl, rfl, State.length_pagesTaken _, rfl, rfl, rfl,
      fun mem law => State.readPages_allocate (s := s) (h := h) (.nbr n) d.dest d.cls (d.hops - 1) mem law pages⟩, rfl,
      Tab.look_put_self _ _ _, fun k other => Tab.look_put_of_ne _ _ other, Tab.look_put_self _ _ _,
      fun k notN notM => (Tab.look_put_of_ne _ _ notM).trans (others k notN)⟩
  have drops : ∀ p why, u.dispose n h d = State.countDiscard { u with path := p } why → dropped (s.store.discards.raise why) := by
    intro p why same
    dsimp only [dropped]
    rw [same]
    exact ⟨rfl, others⟩
  refine ⟨fun isOwn => delivers s.path false (State.dispose_own (ownId.2 isOwn)), ?_⟩
  have table : ¬ own → _ := fun isOther => State.dispose_looked (h := h) (fun same => isOther (ownId.1 same)) looked
  refine ⟨fun isOther none_ => delivers _ true ((table isOther).1 none_), fun i e isOther won => ?_⟩
  obtain ⟨discard, deliver, reflect, forward⟩ := (table isOther).2 i e won
  refine ⟨fun action => drops _ .action (discard action), fun action => delivers _ false (deliver action),
    fun action => drops _ .reflect (reflect action), fun m other action => ?_⟩
  obtain ⟨few, enough⟩ := forward m other action
  exact ⟨fun low => drops _ .hops (few low), fun more room => relays _ m other ((enough more).1 room),
    fun more full => drops _ .queue ((enough more).2 full)⟩

end Sys2Proof.Proofs
end

section
/-! Settling an in-flight set (R105, R106). -/

namespace Sys2Proof.Machine

open Sys2Proof

/-! ### What becomes of each frame of the set -/

section
variable (list : List Seq) (tries : Handle → Nat) (limit : Nat)

/-- The frames that the ACKSET lists. -/
def listedOf (set : List (Handle × Seq)) : List (Handle × Seq) := set.filter fun p => decide (p.2 ∈ list)

/-- The frames that it does not list. -/
def missedOf (set : List (Handle × Seq)) : List (Handle × Seq) := set.filter fun p => decide (p.2 ∉ list)

/-- Those of them within the retry limit. -/
def keptOf (set : List (Handle × Seq)) : List (Handle × Seq) := (missedOf list set).filter fun p => decide (tries p.1 ≤ limit)

/-- Those beyond it. -/
def failedOf (set : List (Handle × Seq)) : List (Handle × Seq) := (missedOf list set).filter fun p => !decide (tries p.1 ≤ limit)

variable {list tries limit}

theorem length_listedOf (set : List (Handle × Seq)) : (listedOf list set).length = set.length - (missedOf list set).length := by
  have all := List.length_eq_length_filter_add (l := set) fun p => decide (p.2 ∈ list)
  have rest : missedOf list set = set.filter fun p => !decide (p.2 ∈ list) := by
    simp only [missedOf, decide_not]
  rw [rest, listedOf]
  omega

theorem length_failedOf (set : List (Handle × Seq)) :
    (failedOf list tries limit set).length = (missedOf list set).length - (keptOf list tries limit set).length := by
  have all := List.length_eq_length_filter_add (l := missedOf list set) fun p => decide (tries p.1 ≤ limit)
  rw [failedOf, keptOf]
  omega

theorem keptOf_append (a b : List (Handle × Seq)) :
    keptOf list tries limit (a ++ b) = keptOf list tries limit a ++ keptOf list tries limit b := by
  simp only [keptOf, missedOf, List.filter_append]

theorem keptOf_sublist (set : List (Handle × Seq)) : (keptOf list tries limit set).Sublist set :=
  List.filter_sublist.trans List.filter_sublist

variable (list tries limit)

/-- From `u` to `t` the frames of `set` in `n`'s queue are settled: the listed released, the rest retried in place or discarded. -/
structure Settled (n : NbrIdx) (set : List (Handle × Seq)) (u t : State) : Prop where
  queue : ∀ front behind, (front ++ (set.map (·.1) ++ behind)).Nodup → u.queue n = front ++ (set.map (·.1) ++ behind) →
    t.queue n = front ++ ((keptOf list tries limit set).map (·.1) ++ behind)
  queues : ∀ m, m ≠ n → t.queue m = u.queue m
  retried : ∀ p ∈ keptOf list tries limit set, t.frame p.1 = (u.frame p.1).map fun f => { f with retries := some (tries p.1) }
  gone : ∀ p ∈ set, p ∉ keptOf list tries limit set → t.frame p.1 = none
  others : ∀ h, h ∉ set.map (·.1) → t.frame h = u.frame h
  nbr : t.nbr n = { u.nbr n with
    counters := { (u.nbr n).counters with
      acked := (bump 65535)^[(listedOf list set).length] (u.nbr n).counters.acked
      retries := (bump 65535)^[(missedOf list set).length] (u.nbr n).counters.retries } }
  nbrs : ∀ m, m ≠ n → t.nbr m = u.nbr m
  discards : t.store.discards = (fun d => Discards.raise d .retry)^[(failedOf list tries limit set).length] u.store.discards

variable {list tries limit} {n : NbrIdx}

theorem Settled.refl (u : State) : Settled list tries limit n [] u u :=
  ⟨fun _ _ _ queue => queue, fun _ _ => rfl, fun _ no => (nomatch no), fun _ no => (nomatch no), fun _ _ => rfl, rfl, fun _ _ => rfl, rfl⟩

/-- Two sets with no frame in common settled one after the other. -/
theorem Settled.append {a b : List (Handle × Seq)} {u v t : State} (h : Settled list tries limit n a u v)
    (k : Settled list tries limit n b v t) (apart : ∀ p ∈ a, ∀ q ∈ b, p.1 ≠ q.1) : Settled list tries limit n (a ++ b) u t where
  queue front behind distinct queue := by
    rw [List.map_append, List.append_assoc] at distinct queue
    have first := h.queue front (b.map (·.1) ++ behind) distinct queue
    rw [← List.append_assoc] at first
    have shorter : (front ++ (keptOf list tries limit a).map (·.1) ++ (b.map (·.1) ++ behind)).Nodup := by
      rw [List.append_assoc]
      exact distinct.sublist (((keptOf_sublist a).map _).append_right _ |>.append_left _)
    have second := k.queue _ behind shorter first
    rw [second, keptOf_append, List.map_append, List.append_assoc, List.append_assoc]
  queues m other := (k.queues m other).trans (h.queues m other)
  retried p there := by
    rw [keptOf_append, List.mem_append] at there
    obtain inA | inB := there
    · have outB : p.1 ∉ b.map (·.1) := fun m => by
        obtain ⟨q, inB, same⟩ := List.mem_map.1 m
        exact apart p ((keptOf_sublist a).subset inA) q inB same.symm
      rw [k.others _ outB, h.retried p inA]
    · have outA : p.1 ∉ a.map (·.1) := fun m => by
        obtain ⟨q, inA, same⟩ := List.mem_map.1 m
        exact apart q inA p ((keptOf_sublist b).subset inB) same
      rw [k.retried p inB, h.others _ outA]
  gone p there not := by
    rw [keptOf_append, List.mem_append, not_or] at not
    obtain inA | inB := List.mem_append.1 there
    · have outB : p.1 ∉ b.map (·.1) := fun m => by
        obtain ⟨q, inB, same⟩ := List.mem_map.1 m
        exact apart p inA q inB same.symm
      rw [k.others _ outB, h.gone p inA not.1]
    · exact k.gone p inB not.2
  others x out := by
    rw [List.map_append, List.mem_append, not_or] at out
    rw [k.others x out.2, h.others x out.1]
  nbr := by
    rw [k.nbr, h.nbr]
    simp only [listedOf, missedOf, List.filter_append, List.length_append, Nat.add_comm (List.length (List.filter _ a)),
      Function.iterate_add_apply]
  nbrs m other := (k.nbrs m other).trans (h.nbrs m other)
  discards := by
    rw [k.discards, h.discards]
    simp only [failedOf, missedOf, List.filter_append, List.length_append, Nat.add_comm (List.length (List.filter _ (List.filter _ a))),
      Function.iterate_add_apply]

/-! ### One frame -/

theorem erase_middle {front behind : List Handle} {h : Handle} (distinct : (front ++ ([h] ++ behind)).Nodup) :
    (front ++ ([h] ++ behind)).erase h = front ++ behind := by
  have fresh : h ∉ front := fun m => (List.nodup_append.1 distinct).2.2 h m h (.head _) rfl
  rw [List.erase_append_right _ fresh, List.singleton_append, List.erase_cons_head]

variable {u : State} {p : Handle × Seq} {f : FrameRec} (record : u.frame p.1 = some f)
include record

/-- A listed frame leaves the queue and is released. -/
theorem settleOne_listed (listed : p.2 ∈ list) : settleOne n list u p =
    { u with
      mon := { u.mon with nbrs := u.mon.nbrs.put n { u.nbr n with
        counters := { (u.nbr n).counters with acked := bump 65535 (u.nbr n).counters.acked } } }
      store := { u.store with
        frames := u.store.frames.put p.1 none
        pool := u.store.pool ++ f.pages
        queues := u.store.queues.put n ((u.queue n).erase p.1) } } := by
  unfold settleOne
  rw [if_pos (List.contains_iff_mem.2 listed), State.release_some (show (u.unqueue n p.1).frame p.1 = some f from record)]
  rfl

/-- Another one within the retry limit stays in its place. -/
theorem settleOne_kept (missed : p.2 ∉ list) (within : f.retries.getD 0 + 1 ≤ u.mon.settings.retryLimit) : settleOne n list u p =
    { u with
      mon := { u.mon with nbrs := u.mon.nbrs.put n { u.nbr n with
        counters := { (u.nbr n).counters with retries := bump 65535 (u.nbr n).counters.retries } } }
      store := { u.store with
        frames := u.store.frames.put p.1 (some { f with retries := some (f.retries.getD 0 + 1) }) } } := by
  unfold settleOne State.retryFrame
  rw [if_neg (fun m => missed (List.contains_iff_mem.1 m))]
  dsimp only
  rw [show State.frame (State.modCounters u n _) p.1 = some f from record]
  dsimp only
  exact if_neg (Nat.not_lt.2 within)

/-- One beyond it is discarded RETRY. -/
theorem settleOne_failed (missed : p.2 ∉ list) (beyond : u.mon.settings.retryLimit < f.retries.getD 0 + 1) : settleOne n list u p =
    { u with
      mon := { u.mon with nbrs := u.mon.nbrs.put n { u.nbr n with
        counters := { (u.nbr n).counters with retries := bump 65535 (u.nbr n).counters.retries } } }
      store := { u.store with
        frames := u.store.frames.put p.1 none
        pool := u.store.pool ++ f.pages
        discards := u.store.discards.raise .retry
        queues := u.store.queues.put n ((u.queue n).erase p.1) } } := by
  unfold settleOne State.retryFrame
  rw [if_neg (fun m => missed (List.contains_iff_mem.1 m))]
  dsimp only
  rw [show State.frame (State.modCounters u n _) p.1 = some f from record]
  dsimp only
  refine (if_pos beyond).trans ?_
  have released := State.release_some (s := (u.modCounters n fun c => { c with retries := bump 65535 c.retries }).unqueue n p.1) record
  exact (congrArg (State.countDiscard · .retry) released).trans rfl

theorem Settled.one (tried : tries p.1 = f.retries.getD 0 + 1) (inForce : u.mon.settings.retryLimit = limit) :
    Settled list tries limit n [p] u (settleOne n list u p) := by
  have alone : ∀ {x : Handle}, x ∉ [p].map (·.1) → x ≠ p.1 := fun out same => out (by rw [same]; exact .head _)
  by_cases listed : p.2 ∈ list
  · have sets : listedOf list [p] = [p] ∧ missedOf list [p] = [] := by simp [listedOf, missedOf, listed]
    have kept : keptOf list tries limit [p] = [] := by rw [keptOf, sets.2, List.filter_nil]
    have failed : failedOf list tries limit [p] = [] := by rw [failedOf, sets.2, List.filter_nil]
    rw [settleOne_listed record listed]
    refine ⟨fun front behind distinct queue => ?_, fun m other => Tab.look_put_of_ne _ _ other, fun q there => ?_, fun q there _ => ?_,
      fun x out => Tab.look_put_of_ne _ _ (alone out), ?_, fun m other => Tab.look_put_of_ne _ _ other, ?_⟩
    · rw [kept]
      exact (Tab.look_put_self _ _ _).trans ((congrArg (List.erase · p.1) queue).trans (erase_middle distinct))
    · rw [kept] at there
      cases there
    · rw [List.mem_singleton.1 there]
      exact Tab.look_put_self _ _ _
    · rw [sets.1, sets.2]
      exact Tab.look_put_self _ _ _
    · rw [failed]
      rfl
  have sets : listedOf list [p] = [] ∧ missedOf list [p] = [p] := by simp [listedOf, missedOf, listed]
  by_cases within : tries p.1 ≤ limit
  · have kept : keptOf list tries limit [p] = [p] := by simp [keptOf, sets.2, within]
    have failed : failedOf list tries limit [p] = [] := by simp [failedOf, sets.2, within]
    rw [settleOne_kept record listed (by rw [inForce, ← tried]; exact within)]
    refine ⟨fun front behind _ queue => ?_, fun _ _ => rfl, fun q there => ?_, fun q there not => ?_,
      fun x out => Tab.look_put_of_ne _ _ (alone out), ?_, fun m other => Tab.look_put_of_ne _ _ other, ?_⟩
    · rw [kept]
      exact queue
    · rw [kept] at there
      rw [List.mem_singleton.1 there, record, tried]
      exact Tab.look_put_self _ _ _
    · rw [kept] at not
      exact absurd there not
    · rw [sets.1, sets.2]
      exact Tab.look_put_self _ _ _
    · rw [failed]
      rfl
  · have kept : keptOf list tries limit [p] = [] := by simp [keptOf, sets.2, within]
    have failed : failedOf list tries limit [p] = [p] := by simp [failedOf, sets.2, Nat.not_le.1 within]
    rw [settleOne_failed record listed (by rw [inForce, ← tried]; exact Nat.not_le.1 within)]
    refine ⟨fun front behind distinct queue => ?_, fun m other => Tab.look_put_of_ne _ _ other, fun q there => ?_, fun q there _ => ?_,
      fun x out => Tab.look_put_of_ne _ _ (alone out), ?_, fun m other => Tab.look_put_of_ne _ _ other, ?_⟩
    · rw [kept]
      exact (Tab.look_put_self _ _ _).trans ((congrArg (List.erase · p.1) queue).trans (erase_middle distinct))
    · rw [kept] at there
      cases there
    · rw [List.mem_singleton.1 there]
      exact Tab.look_put_self _ _ _
    · rw [sets.1, sets.2]
      exact Tab.look_put_self _ _ _
    · rw [failed]
      rfl

omit record in
/-- The set settled frame by frame. -/
theorem Settled.foldl {set : List (Handle × Seq)} (distinct : (set.map (·.1)).Nodup)
    (records : ∀ p ∈ set, ∃ f, u.frame p.1 = some f ∧ tries p.1 = f.retries.getD 0 + 1) (inForce : u.mon.settings.retryLimit = limit) :
    Settled list tries limit n set u (set.foldl (settleOne n list) u) := by
  induction set generalizing u with
  | nil => exact .refl u
  | cons p rest ih =>
    rw [List.map_cons] at distinct
    obtain ⟨fresh, distinct⟩ := List.nodup_cons.1 distinct
    obtain ⟨f, record, tried⟩ := records p (.head _)
    have first : Settled list tries limit n [p] u (settleOne n list u p) := .one record tried inForce
    have apart : ∀ q ∈ rest, p.1 ≠ q.1 := fun q there same => fresh (by rw [same]; exact List.mem_map.2 ⟨q, there, rfl⟩)
    have later := ih (u := settleOne n list u p) distinct (fun q there => ?_)
      ((congrArg (·.retryLimit) (changes_settleOne u n list p .settings rfl)).trans inForce)
    · exact first.append later fun x there q m => by
        rw [List.mem_singleton.1 there]
        exact apart q m
    · rw [first.others q.1 (fun m => apart q there (List.mem_singleton.1 m).symm)]
      exact records q (.tail _ there)

end

/-- Settling leaves everything but monitor and frame store. -/
theorem settleOne_rest (u : State) (n : NbrIdx) (list : List Seq) (p : Handle × Seq) :
    settleOne n list u p = { u with mon := (settleOne n list u p).mon, store := (settleOne n list u p).store } := by
  unfold settleOne State.retryFrame
  dsimp only
  split
  · unfold State.release
    split <;> rfl
  · split
    · rfl
    · split
      · unfold State.discard State.release
        split <;> rfl
      · rfl

theorem foldl_settleOne_rest (u : State) (n : NbrIdx) (list : List Seq) (set : List (Handle × Seq)) :
    set.foldl (settleOne n list) u =
      { u with mon := (set.foldl (settleOne n list) u).mon, store := (set.foldl (settleOne n list) u).store } := by
  induction set generalizing u with
  | nil => rfl
  | cons p rest ih =>
    rw [List.foldl_cons, ih, settleOne_rest]

theorem Discards.raise_retry_iterate {d : Discards} (range : d.retry ≤ 65535) (k : Nat) :
    (fun d => Discards.raise d .retry)^[k] d = { d with retry := min 65535 (d.retry + k) } := by
  rw [← bump_iterate range k]
  exact iterate_field (get := Discards.retry) (put := fun d x => { d with retry := x }) (fun _ => rfl) (fun _ _ => rfl) (fun _ _ _ => rfl) _ k d

end Sys2Proof.Machine

namespace Sys2Proof.Proofs

open Sys2Proof Sys2Proof.Machine

/-- Settles O40: `Settled.foldl` for the frames, then the sent counter. -/
theorem settlingAcknowledgesOrRetries : Obligations.SettlingAcknowledgesOrRetries := by
  intro s n set behind list store counters queue retries limit missed kept t was counted
  obtain ⟨stored, -, -⟩ := storeLaw_iff.1 store
  have distinct : (set.map (·.1) ++ behind).Nodup := queue ▸ stored.nodup (.queue n)
  have records : ∀ p ∈ set, ∃ f, s.frame p.1 = some f ∧ retries p.1 = f.retries.getD 0 + 1 := fun p there => by
    have queued : p.1 ∈ s.queue n := by
      rw [queue]
      exact List.mem_append_left _ (List.mem_map.2 ⟨p, there, rfl⟩)
    obtain ⟨f, record, -⟩ := stored.held (.queue n) p.1 queued
    refine ⟨f, record, ?_⟩
    dsimp only [retries]
    rw [record]
  have done : Settled list retries limit n set s (set.foldl (settleOne n list) s) :=
    .foldl (List.nodup_append.1 distinct).1 records rfl
  have rest := foldl_settleOne_rest s n list set
  have pieces := changes_settle s n set list
  obtain ⟨-, ranges, retry, -⟩ := counters
  obtain ⟨-, -, -, -, -, acked, tried, -⟩ := ranges n
  refine ⟨done.queue [] behind distinct queue, done.queues, done.retried, done.gone, done.others, ?_, fun m other => ?_, ?_,
    pieces .delivery rfl, pieces .mem rfl, pieces .checkFail rfl, pieces .foreign rfl, pieces .settings rfl, pieces .floors rfl,
    congrArg (·.path) rest, congrArg (·.link) rest, congrArg (·.radio) rest, congrArg (·.sched) rest, congrArg (·.scan) rest,
    congrArg (·.part) rest⟩
  · refine (Tab.look_put_self _ _ _).trans ?_
    rw [done.nbr, bump_iterate acked, bump_iterate tried, length_listedOf]
    rfl
  · exact (Tab.look_put_of_ne _ _ other).trans (done.nbrs m other)
  · refine Eq.trans done.discards ?_
    rw [Discards.raise_retry_iterate retry.1, length_failedOf]
    rfl

end Sys2Proof.Proofs
end

section
/-! The in-flight set of a TX slot (R98 to R102). -/

namespace Sys2Proof.Machine

open Sys2Proof

/-! ### The burst that fits -/

section
variable (cost body : Nat) (len : Handle → Nat)

/-- The burst airtime of frames behind a burst that has taken `used` ticks, if any (R11). -/
def burstFrom (used : Option Nat) (lens : List Nat) : Nat :=
  match used with
  | none => burstAirtime cost lens
  | some u => u + 128 + burstAirtime cost lens

theorem burstFrom_single (used : Option Nat) (j : Handle) : burstFrom cost used [len j] = burstWith cost len used j := by
  cases used <;> rfl

theorem burstFrom_cons (used : Option Nat) (j : Handle) {lens : List Nat} (more : lens ≠ []) :
    burstFrom cost used (len j :: lens) = burstFrom cost (some (burstWith cost len used j)) lens := by
  obtain ⟨l, rest, rfl⟩ := List.exists_cons_of_ne_nil more
  cases used with
  | none => rfl
  | some u =>
    show u + 128 + (airtime cost (len j) + 128 + burstAirtime cost (l :: rest))
      = u + 128 + airtime cost (len j) + 128 + burstAirtime cost (l :: rest)
    omega

/-- The frames chosen fit the body. -/
theorem fitFrames_fits {room : Nat} {used : Option Nat} {q : List Handle} (some_ : fitFrames cost body len room used q ≠ []) :
    burstFrom cost used ((fitFrames cost body len room used q).map len) ≤ body := by
  induction room generalizing used q with
  | zero => exact absurd rfl some_
  | succ room ih =>
    cases q with
    | nil => exact absurd rfl some_
    | cons j rest =>
      rw [fitFrames_cons] at some_ ⊢
      by_cases fits : burstWith cost len used j ≤ body
      · rw [if_pos fits, List.map_cons]
        by_cases last : fitFrames cost body len room (some (burstWith cost len used j)) rest = []
        · rw [last, List.map_nil, burstFrom_single]
          exact fits
        · rw [burstFrom_cons cost len used j (fun e => last (List.map_eq_nil_iff.1 e))]
          exact ih last
      · rw [if_neg fits] at some_
        exact absurd rfl some_

/-- One more frame would not fit, unless there is room for no more. -/
theorem fitFrames_longest {room : Nat} {used : Option Nat} {q rest : List Handle} {h : Handle}
    (next : q = fitFrames cost body len room used q ++ h :: rest) :
    (fitFrames cost body len room used q).length = room
      ∨ body < burstFrom cost used ((fitFrames cost body len room used q ++ [h]).map len) := by
  induction room generalizing used q with
  | zero => exact .inl rfl
  | succ room ih =>
    cases q with
    | nil => exact absurd next.symm (List.append_ne_nil_of_right_ne_nil _ (List.cons_ne_nil _ _))
    | cons j others =>
      rw [fitFrames_cons] at next ⊢
      by_cases fits : burstWith cost len used j ≤ body
      · rw [if_pos fits] at next ⊢
        rw [List.cons_append] at next
        have behind := (List.cons.inj next).2
        refine (ih behind).imp (congrArg (· + 1)) fun full => ?_
        rw [List.cons_append, List.map_cons, burstFrom_cons cost len used j (by simp)]
        exact full
      · rw [if_neg fits] at next ⊢
        obtain ⟨rfl, -⟩ := List.cons.inj next
        refine .inr ?_
        rw [List.nil_append, List.map_singleton, burstFrom_single]
        exact Nat.not_le.1 fits

theorem fitFrames_ne_nil {room : Nat} {j : Handle} {rest : List Handle} (fits : airtime cost (len j) ≤ body) :
    fitFrames cost body len (room + 1) none (j :: rest) ≠ [] := by
  rw [fitFrames_cons]
  exact fun e => List.cons_ne_nil _ _ ((if_pos fits).symm.trans e)

variable {len} {len' : Handle → Nat}

/-- Only the lengths of queued frames matter. -/
theorem fitFrames_congr {room : Nat} {used : Option Nat} {q : List Handle} (same : ∀ j ∈ q, len j = len' j) :
    fitFrames cost body len room used q = fitFrames cost body len' room used q := by
  induction room generalizing used q with
  | zero => rfl
  | succ room ih =>
    cases q with
    | nil => rfl
    | cons j rest =>
      have here : burstWith cost len used j = burstWith cost len' used j := by
        unfold burstWith
        rw [same j (.head _)]
      rw [fitFrames_cons, fitFrames_cons, here, ih fun k there => same k (.tail _ there)]

end

/-! ### The heads that could never fit -/

section
variable {s : State}

/-- The heads dropped exceed an empty body; the head that is left fits it (R101, step 1). -/
theorem dropOversize_lengths {cost body : Nat} {len : Handle → Nat} {q : List Handle} (distinct : q.Nodup)
    (lengths : ∀ j ∈ q, s.frameLen j = len j) :
    ∃ gone left, q = gone ++ left
      ∧ dropOversize cost body q s = (gone.foldl (fun s j => s.discard .airtime j) s, left)
      ∧ (∀ j ∈ gone, body < airtime cost (len j))
      ∧ ∀ j rest, left = j :: rest → airtime cost (len j) ≤ body := by
  induction q generalizing s with
  | nil => exact ⟨[], [], rfl, rfl, fun _ no => (nomatch no), fun _ _ e => nomatch e⟩
  | cons j rest ih =>
    obtain ⟨fresh, distinct⟩ := List.nodup_cons.1 distinct
    have here := lengths j (.head _)
    unfold dropOversize
    by_cases exceeds : body < airtime cost (s.frameLen j)
    · rw [if_pos exceeds]
      have later : ∀ k ∈ rest, (s.discard .airtime j).frameLen k = len k := fun k there => by
        have same : (s.discard .airtime j).frame k = s.frame k := by
          rw [State.frame_discard, if_neg (fun e => fresh (by rwa [← e]))]
        rw [← lengths k (.tail _ there)]
        unfold State.frameLen
        rw [same]
      obtain ⟨gone, left, queue, run, exceed, fits⟩ := ih distinct later
      refine ⟨j :: gone, left, by rw [queue, List.cons_append], run, fun k there => ?_, fits⟩
      obtain rfl | there := List.mem_cons.1 there
      · rwa [← here]
      · exact exceed k there
    · rw [if_neg exceeds]
      refine ⟨[], j :: rest, rfl, rfl, fun _ no => (nomatch no), fun k others e => ?_⟩
      obtain ⟨rfl, -⟩ := List.cons.inj e
      rw [← here]
      exact Nat.not_lt.1 exceeds

theorem Discards.raise_airtime_iterate {d : Discards} (range : d.airtime ≤ 65535) (k : Nat) :
    (fun d => Discards.raise d .airtime)^[k] d = { d with airtime := min 65535 (d.airtime + k) } := by
  rw [← bump_iterate range k]
  exact iterate_field (get := Discards.airtime) (put := fun d x => { d with airtime := x }) (fun _ => rfl) (fun _ _ => rfl) (fun _ _ _ => rfl) _ k d

/-! ### The start of a TX slot -/

/-- What a TX slot sends for a chosen set (R102). -/
def State.contentOf (s : State) : List Handle → TxContent
  | [] => .hold
  | h :: rest => .frames ((h :: rest).map fun h => (h, s.frameSeq h))

theorem State.contentOf_some {set : List Handle} (some_ : set ≠ []) :
    s.contentOf set = .frames (set.map fun h => (h, s.frameSeq h)) := by
  cases set with
  | nil => exact absurd rfl some_
  | cons h rest => rfl

theorem State.openTx_active {n : NbrIdx} {sec : Sector} (active : (s.nbr n).state = .up ∨ (s.nbr n).state = .weak)
    (clear : s.sched.holds.any = false) (named : (s.nbr n).sector = some sec) {u : State} {set : List Handle}
    (chosen : s.selectFrames n (byteCost (tierOf s.mon.settings (s.nbr n).cap ((s.nbr n).acc.map fun a => a / 16))) = (u, set)) :
    s.openTx n = u.setRadio { u.radio with tx := some (s.txContext n sec (u.contentOf set)) } := by
  have heard : (s.nbr n).state.heard = true := by obtain h | h := active <;> rw [h] <;> rfl
  have notHeld : (s.nbr n).state ≠ .held := by obtain h | h := active <;> rw [h] <;> exact LinkState.noConfusion
  unfold State.openTx
  rw [if_pos ⟨heard, clear⟩, if_neg notHeld, named,
    show s.selectFrames n (byteCost (tierOf s.mon.settings (s.nbr n).cap ((s.nbr n).acc.map marginOf))) = (u, set) from chosen]
  cases set <;> rfl

end

end Sys2Proof.Machine

namespace Sys2Proof.Proofs

open Sys2Proof Sys2Proof.Machine

/-- Settles O36: the heads dropped (`dropOversize_lengths`), then the longest run that fits (`fitFrames_fits`,
`fitFrames_longest`). -/
theorem txSelectionTakesTheLongestFittingRun : Obligations.TxSelectionTakesTheLongestFittingRun := by
  intro s i n sec law range due code active named clear tier b body len corr
  obtain ⟨stored, -, -⟩ := storeLaw_iff.1 law
  set u := s.opened i (.tx n) with isU
  obtain ⟨gone, left, queue, dropped, exceed, fits⟩ := dropOversize_lengths (s := u) (cost := b) (body := body) (len := len)
    (q := s.queue n) (stored.nodup (.queue n)) (fun _ _ => rfl)
  have distinct : (gone ++ left).Nodup := queue ▸ stored.nodup (.queue n)
  have apart : ∀ j ∈ left, j ∉ gone := fun j inLeft inGone => (List.nodup_append.1 distinct).2.2 j inGone j inLeft rfl
  set v := (gone.foldl (fun s j => s.discard .airtime j) u).setQueue n left with isV
  have frame : ∀ j, v.frame j = if j ∈ gone then none else s.frame j := State.frame_discardAll_eq u .airtime gone
  have kept : ∀ j ∈ left, v.frame j = s.frame j := fun j there => (frame j).trans (if_neg (apart j there))
  have lengths : ∀ j ∈ left, v.frameLen j = s.frameLen j := fun j there => by
    unfold State.frameLen
    rw [kept j there]
  set chosen := fitFrames b body len 8 none left with isChosen
  have selects : u.selectFrames n b = (v, chosen) := by
    unfold State.selectFrames
    dsimp only
    rw [show dropOversize b (slotBody u.sched.slotLen) (u.queue n) u = _ from dropped]
    dsimp only
    exact congrArg (Prod.mk v) (fitFrames_congr b body lengths)
  have run : exec .slotStart s = .next (v.setRadio { v.radio with tx := some (u.txContext n sec (v.contentOf chosen)) }) := by
    rw [exec_event_eq (c := .slotStart) rfl, State.slotStart_due due (slotKindOf_tx code)]
    exact congrArg _ (State.openTx_active (s := u) active ((Holds.any_eq_false_iff _).2 clear) named selects)
  have rest : v = { u with store := v.store } :=
    congrArg (State.setQueue · n left) (State.discardAll_store u .airtime gone)
  have pieces := changes_foldl (fun s h => s.discard .airtime h) id (fun s h => changes_discard s .airtime h) gone u
  refine ⟨_, gone, left, chosen, u.txContext n sec (v.contentOf chosen),
    { index := i, kind := .tx n, part := .guard, corr := corr, boundaryTaken := false }, run, queue, fitFrames_prefix _ _ _ _ _ _,
    fitFrames_length _ _ _ _ _ _, exceed, fun none_ => ?_, fun some_ => fitFrames_fits b body len some_,
    fun h rest next => fitFrames_longest b body len next, Tab.look_put_self _ _ _, fun m other => ?_, frame, ?_,
    pieces .delivery rfl, pieces .mem rfl, pieces .checkFail rfl, pieces .foreign rfl, ?_, rfl, rfl, rfl, rfl, rfl, rfl,
    fun none_ => congrArg v.contentOf none_, fun some_ => ⟨_, State.contentOf_some some_, map_fst_pair _ _, fun p there => ?_⟩,
    rfl, rfl, rfl, rfl, rfl, congrArg (·.sched) rest, congrArg (·.mon) rest, congrArg (·.path) rest, congrArg (·.link) rest,
    congrArg (·.scan) rest, congrArg (·.part) rest⟩
  · by_contra more
    obtain ⟨j, others, isLeft⟩ := List.exists_cons_of_ne_nil more
    rw [isChosen, isLeft] at none_
    exact fitFrames_ne_nil b body len (fits j others isLeft) none_
  · exact (Tab.look_put_of_ne _ _ other).trans (congrArg (·.look m) (pieces .queues rfl))
  · exact (State.discards_discardAll u .airtime gone).trans (Discards.raise_airtime_iterate range _)
  · show ({ v.radio with tx := _ } : Radio) = _
    rw [show v.radio = s.radio from congrArg (·.radio) rest]
  · obtain ⟨j, inSet, rfl⟩ := List.mem_map.1 there
    have inLeft : j ∈ left := (fitFrames_prefix _ _ _ _ _ _).subset inSet
    have inQueue : j ∈ s.queue n := by
      rw [queue]
      exact List.mem_append_right _ inLeft
    obtain ⟨f, record, seq⟩ := stored.frameSeq inQueue
    refine ⟨f, record, seq.trans (congrArg some ?_)⟩
    unfold State.frameSeq
    rw [kept j inLeft]

end Sys2Proof.Proofs
end
